-- ==== Sys2Proof/Word.lean ====
section
/-! DEFINITION. The word types of the JF8204 and their plainest arithmetic: bytes on a wire, serials,
tree numbers and home indices, and vectors built from a function of the index. -/

namespace Sys2Proof

/-- One byte as a wire layout of chapter 11 carries it (R181). -/
abbrev Byte := BitVec 8

/-- A home's 64-bit factory identity (00_scope.md section 5, R26). -/
abbrev Serial := BitVec 64

/-- A tree number, 0 to 3 (00_scope.md section 5). -/
abbrev TreeId := Fin 4

/-- A home index, 0 to 127: the place of a record in its tree's table (R26). -/
abbrev HomeIdx := Fin 128

/-- The four trees in ascending order. -/
def allTrees : List TreeId := [0, 1, 2, 3]

/-- The 128 home indices of a tree in ascending order. -/
def allHomes : List HomeIdx := List.finRange 128

/-- The vector whose entry at `k` is `f k`. -/
def tabulate {α : Type} {n : Nat} (f : Fin n → α) : Vector α n :=
  ⟨⟨(List.finRange n).map f⟩, by simp⟩

end Sys2Proof
end

