-- ==== Sys2Proof/Config.lean ====
section
/-! DEFINITION. The figures that the manual fixes for every JF8204, each named once, with the rule
that states it.  The manual leaves no value of a machine that goes on undefined, so there is no free
value here (NOTES.md, "Assumptions", says how each open point was settled). -/

namespace Sys2Proof.Config

/-- The round counter counts modulo this (R1). -/
def roundWrap : Nat := 65536
/-- Generations count modulo this (R29). -/
def generationWrap : Nat := 65536
/-- Billing intervals count modulo this (R145). -/
def intervalWrap : Nat := 65536
/-- Blocks of a round (R1). -/
def roundBlocks : Nat := 4000
/-- Steps of a block (00_scope.md section 4). -/
def blockSteps : Nat := 8
/-- First block of the discovery window (R2). -/
def windowStart : Nat := 1960
/-- Blocks of the discovery window (R88). -/
def windowBlocks : Nat := 2000
/-- First block of the dark tail (R2). -/
def tailStart : Nat := 3960
/-- Blocks of the dark tail (R2, R95). -/
def tailBlocks : Nat := 40
/-- The largest value of a counter that saturates at 32 bits (R9, R22, R63, R85, R148, R155, R171). -/
def counterMax : Nat := 4294967295
/-- Places of a control-word queue (R8). -/
def wordPlaces : Nat := 160
/-- Control words a header carries at most (R5, R8). -/
def wordsPerHeader : Nat := 16
/-- Rounds over which the refresh visits every home index (R11). -/
def refreshCycle : Nat := 64
/-- Taken downstream frames a Transmitter holds at most (R23). -/
def takenPlaces : Nat := 64
/-- Longest downstream frame, in bytes (R23). -/
def frameMax : Nat := 16384
/-- Bytes of a tree's downstream line in one round (R23). -/
def downstreamBytes : Nat := 500000
/-- Entries of the transmit queue (R55). -/
def queuePlaces : Nat := 16
/-- Clashes at which an entry is dropped (R47). -/
def clashLimit : Nat := 16
/-- The address that stands for all stations (R44). -/
def allStations : Nat := 31
/-- Rounds between two HELLOs of a waiting chip (R174). -/
def helloEvery : Nat := 2500
/-- The reference round trip in steps (R4). -/
def referenceTrip : Nat := 12800
/-- Steps by which a header may lie off its place and still be attributed (R14). -/
def attributionSteps : Nat := 64
/-- Rounds of a trim hold (R84). -/
def trimHoldRounds : Nat := 16
/-- Largest value of the contested field (R26). -/
def contestedMax : Nat := 255
/-- Largest rogue score (R123). -/
def scoreMax : Nat := 31
/-- What one fault adds to a rogue score (R123). -/
def scoreStep : Nat := 4
/-- Rounds of an epoch (R108). -/
def epochRounds : Nat := 32
/-- Epoch ends after which a peer entry is removed (R115). -/
def peerAgeLimit : Nat := 4
/-- Stations of a full shelf, among which the initial share is cut (R120). -/
def shelfStations : Nat := 31
/-- Payload blocks per round of one enabled tree (R25). -/
def treeBlocks : Nat := 3960
/-- Records of the departed list (R155). -/
def departedPlaces : Nat := 32
/-- Entries of the readout table (R158). -/
def readoutPlaces : Nat := 4
/-- Largest readout tag (R159). -/
def tagMax : Nat := 255
/-- Longest body of a shelf frame (R45). -/
def bodyMax : Nat := 240
/-- Steps of a discovery reply: four block lengths (R21). -/
def replySteps : Nat := 32

end Sys2Proof.Config
end

