-- ==== Sys2Proof/Syntax.lean ====
section
/-! DEFINITION. The commands of the block: one constructor of `Instr` per row of
spec/opcode_table.json, with the operands each row's event brings from outside the block that takes
it (light on a fibre, bits on the shelf line, the fields of a message, the name of a record). -/

namespace Sys2Proof

/-- The seven states of a home record (R26), in the code order of R183. -/
inductive RecordState
  | free | claiming | awaiting | active | quenched | barred | lost
  deriving DecidableEq, Repr

/-- The committed and the peak rate of one tier, in payload blocks per round (00_scope.md section 5). -/
structure TierRates where
  cr : Nat
  pr : Nat
  deriving DecidableEq, Repr

/-- The settings (R176), in the order of the SETTINGS body (R184): as sent in a command, as clamped in
the state. -/
structure Settings where
  /-- bit `t` is set for an enabled tree `t` (R184) -/
  enabled : BitVec 4
  /-- D, the district capacity -/
  capacity : Nat
  admitCap : Nat
  tiers : Vector TierRates 8
  unitExp : Nat
  callEvery : Nat
  pollEvery : Nat
  silentLimit : Nat
  levelMin : Int
  levelMax : Int
  litLevel : Int
  darkLitMin : Nat
  darkRounds : Nat
  verifyRounds : Nat
  scoreLimit : Nat
  relapseLimit : Nat
  claimWait : Nat
  admitWait : Nat
  lostHold : Nat
  quenchHold : Nat
  barHold : Nat
  foreignRetry : Nat
  pickupWait : Nat
  confirmWait : Nat
  secondManager : Nat
  /-- the ALIAS setting -/
  aliasOn : Bool
  deriving DecidableEq, Repr

/-- A burst header as the delineator finds it: the step (counted from the start of the window's block 0)
at which its header block starts, its received level, and the bytes of that block (R14, R186). -/
structure FoundHeader where
  pos : Int
  level : Int
  bytes : List Byte
  deriving DecidableEq, Repr

/-- The light from which the outcome of one grant is settled (R14 to R18). -/
structure BurstLight where
  /-- the headers found in the open window since the last arrival event, in the order found -/
  headers : List FoundHeader
  /-- the received level of the grant's planned header block -/
  headerBlockLevel : Int
  /-- the level over the span of one block that follows the burst's end (R16) -/
  afterLevel : Int
  /-- the bytes of the payload blocks that follow the header taken (R15) -/
  payload : List Byte
  deriving DecidableEq, Repr

/-- The light from which the delineator reads the next discovery reply (R21). -/
structure ReplyLight where
  /-- the received level at each step from the place where the delineator stands -/
  levels : List Int
  /-- the received level of the reply -/
  replyLevel : Int
  /-- the bytes of the reply's four blocks -/
  bytes : List Byte
  deriving DecidableEq, Repr

/-- The fields of a QUERY body after its subject (R183). -/
structure QueryBody where
  form : Nat
  tree : Nat
  index : Nat
  serial : Serial
  deriving DecidableEq, Repr

/-- What the Enrolment Controller reports of a search quench request (R136, R137): the outcome, the
prior (for HELD the present) state, and the record's relapses before the change where it was tiered. -/
inductive SearchOutcome
  | moved (prior : RecordState) (relapses : Option Nat)
  | held (present : RecordState) (relapses : Option Nat)
  deriving DecidableEq, Repr

/-- The commands: the rows of spec/opcode_table.json in its order. -/
inductive Instr
  /-- The supply passes through its threshold (R172). -/
  | powerOnReset
  /-- The reset pin is asserted (R172). -/
  | pinReset
  /-- Supply and pin let the reset end; `straps` is what the five address straps read (R172, R44). -/
  | resetEnd (straps : Fin 32)
  /-- The next chip round opens (R1). -/
  | roundOpening
  /-- The plan build of the round's opening (R86). -/
  | planBuild
  /-- Tree `tree`'s Transmitter sends the header that opens the round (R5). -/
  | roundHeader (tree : TreeId)
  /-- Block 1600 of the round on `tree`; `levels` are the received levels of blocks 0 to 3959 of the
  window that closes (R13, R19, R20). -/
  | roundReceiveEnd (tree : TreeId) (levels : List Int)
  /-- The next grant of `tree`'s open window is settled from `light` (R18). -/
  | arrival (tree : TreeId) (light : BurstLight)
  /-- The delineator of `tree`'s open discovery window reads on through `light` (R21, R66). -/
  | discoveryReply (tree : TreeId) (light : ReplyLight)
  /-- The shelf switch offers a downstream frame tagged with a tree and a home index (R23). -/
  | downstreamFrame (tree : TreeId) (home : HomeIdx) (frame : List Byte)
  /-- The shelf line becomes idle (R46). -/
  | lineIdle
  /-- The Interface is overridden in the arbitration field (R46). -/
  | contentionLost
  /-- A bit read after the arbitration field differs from the bit sent (R47). -/
  | addressClashSending
  /-- The last check bit is sent without mismatch (R48). -/
  | frameSent
  /-- A frame has been read from the line: its bits from the first class bit on, marker bits included,
  recessive as `true`, up to the frame's end or to the idle that cut it (R45, R49). -/
  | frameReceived (bits : List Bool)
  /-- A SETTINGS from `sender` (R175). -/
  | settings (sender : Nat) (raw : Settings)
  /-- A QUERY CHIP from `sender` (R60, R61). -/
  | queryChip (sender : Nat) (query : QueryBody)
  /-- A QUERY TREE from `sender` (R60, R62). -/
  | queryTree (sender : Nat) (query : QueryBody)
  /-- A QUERY HOME from `sender` (R42). -/
  | queryHome (sender : Nat) (query : QueryBody)
  /-- An ADMIT from `sender` (R78). -/
  | admission (sender : Nat) (serial : Serial) (tier : Nat) (quota : Nat)
  /-- A REFUSE from `sender` (R38). -/
  | refuse (sender : Nat) (serial : Serial)
  /-- A RELEASE from `sender` (R39). -/
  | release (sender : Nat) (serial : Serial)
  /-- A DISMISS from `sender` (R40). -/
  | dismiss (sender : Nat) (serial : Serial)
  /-- A RESTART of the tree numbered `tree` from `sender` (R179). -/
  | restart (sender : Nat) (tree : Nat)
  /-- A READ from `sender`: its kind byte, tree, first index and count (R160). -/
  | read (sender : Nat) (kind tree first count : Nat)
  /-- A CONFIRM from `sender` (R167). -/
  | confirm (sender : Nat) (tag : Nat)
  /-- A CLAIM from the peer at `peer`, naming its own tree and index (R75). -/
  | claimReceived (peer : Nat) (serial : Serial) (tree index : Nat)
  /-- An OBJECT from the peer at `peer` (R76). -/
  | objectReceived (peer : Nat) (serial : Serial) (tree index : Nat)
  /-- A DEMAND from the peer at `peer`: its C, its E and its count of ACTIVE homes (R114). -/
  | demandReceived (peer : Nat) (committed excess homes : Nat)
  /-- The Interface's report that a record's CLAIM was sent (R73). -/
  | claimSentReport (tree : TreeId) (home : HomeIdx) (generation : Nat)
  /-- The Interface's report that a record's CLAIM was dropped (R73). -/
  | claimDroppedReport (tree : TreeId) (home : HomeIdx) (generation : Nat)
  /-- The Monitor's score quench request (R125). -/
  | scoreQuenchRequest (tree : TreeId) (home : HomeIdx) (generation : Nat)
  /-- The Monitor's search quench request (R136, R137). -/
  | searchQuenchRequest (tree : TreeId) (home : HomeIdx) (generation : Nat)
  /-- The Monitor's undo request, with what its verify data recorded (R139, R140). -/
  | undoRequest (tree : TreeId) (home : HomeIdx) (generation : Nat)
      (outcome : Option SearchOutcome) (refuseNoted : Bool)
  /-- CLAIM_WAIT of a record has run out (R74). -/
  | claimWaitExpiry (tree : TreeId) (home : HomeIdx)
  /-- ADMIT_WAIT of a record has run out (R81). -/
  | admitWaitExpiry (tree : TreeId) (home : HomeIdx)
  /-- BAR_HOLD of a record has run out (R82). -/
  | barHoldExpiry (tree : TreeId) (home : HomeIdx)
  /-- LOST_HOLD of a record has run out (R35). -/
  | lostHoldExpiry (tree : TreeId) (home : HomeIdx)
  /-- QUENCH_HOLD of a record has run out (R127). -/
  | quenchHoldExpiry (tree : TreeId) (home : HomeIdx)
  /-- The trim hold of a record has counted down to 0 (R84). -/
  | trimHoldEnd (tree : TreeId) (home : HomeIdx)
  /-- The foreign timer of a tree has run out (R142). -/
  | foreignTimerExpiry (tree : TreeId)
  /-- The epoch end of the round's opening (R109). -/
  | epochEnd
  /-- PICKUP_WAIT of the readout `tag` has run out (R166). -/
  | pickupWaitExpiry (tag : Nat)
  /-- CONFIRM_WAIT of the readout `tag` has run out (R166). -/
  | confirmWaitExpiry (tag : Nat)
  /-- The HELLO countdown has reached 0 (R174). -/
  | helloCountdownExpiry
  /-- The frame at the head of a tree's taken frames is to go out on its downstream line (R23). -/
  | takenFrameSent (tree : TreeId)
  deriving DecidableEq, Repr

end Sys2Proof
end

