-- ==== Sys2Proof/WellFormed.lean ====
section
/-! DEFINITION. Which commands can reach the block: the ranges that the wires and the layouts of
chapter 11 give every operand. -/

namespace Sys2Proof

/-- A number that fits a field of `bytes` bytes (R181). -/
def fitsBytes (bytes n : Nat) : Bool := decide (n < 256 ^ bytes)

/-- A number that fits the five-bit sender field of a frame (R45). -/
def fitsSender (n : Nat) : Bool := decide (n < 32)

/-- A signed number that fits a field of two bytes (R181). -/
def fitsSigned (n : Int) : Bool := decide (-32768 ≤ n) && decide (n ≤ 32767)

/-- Settings whose fields fit the fields of the SETTINGS body (R184). -/
def Settings.wf (c : Settings) : Bool :=
  fitsBytes 3 c.capacity && fitsBytes 2 c.admitCap
    && c.tiers.toList.all (fun r => fitsBytes 2 r.cr && fitsBytes 2 r.pr)
    && fitsBytes 1 c.unitExp && fitsBytes 1 c.callEvery && fitsBytes 1 c.pollEvery
    && fitsBytes 1 c.silentLimit
    && fitsSigned c.levelMin && fitsSigned c.levelMax && fitsSigned c.litLevel
    && fitsBytes 1 c.darkLitMin && fitsBytes 1 c.darkRounds && fitsBytes 1 c.verifyRounds
    && fitsBytes 1 c.scoreLimit && fitsBytes 1 c.relapseLimit
    && fitsBytes 2 c.claimWait && fitsBytes 3 c.admitWait && fitsBytes 3 c.lostHold
    && fitsBytes 3 c.quenchHold && fitsBytes 3 c.barHold && fitsBytes 3 c.foreignRetry
    && fitsBytes 2 c.pickupWait && fitsBytes 2 c.confirmWait && fitsBytes 1 c.secondManager

/-- A QUERY body whose fields fit their bytes (R183). -/
def QueryBody.wf (q : QueryBody) : Bool :=
  fitsBytes 1 q.form && fitsBytes 1 q.tree && fitsBytes 1 q.index

/-- A command whose operands the wires can bring. -/
def Instr.wf : Instr → Bool
  | .powerOnReset | .pinReset | .resetEnd _ | .roundOpening | .planBuild | .roundHeader _ => true
  | .roundReceiveEnd _ levels => decide (levels.length = Config.tailStart)
  | .arrival _ light =>
      light.headers.all (fun h => decide (8 ≤ h.bytes.length))
        && decide (light.payload.length % 32 = 0) && decide (light.payload.length ≤ 96000)
  | .discoveryReply _ light => decide (11 ≤ light.bytes.length)
  | .downstreamFrame _ _ _ => true
  | .lineIdle | .contentionLost | .addressClashSending | .frameSent | .frameReceived _ => true
  | .settings sender raw => fitsSender sender && raw.wf
  | .queryChip sender q | .queryTree sender q | .queryHome sender q => fitsSender sender && q.wf
  | .admission sender _ tier quota => fitsSender sender && fitsBytes 1 tier && fitsBytes 4 quota
  | .refuse sender _ | .release sender _ | .dismiss sender _ => fitsSender sender
  | .restart sender tree => fitsSender sender && fitsBytes 1 tree
  | .read sender kind tree first count =>
      fitsSender sender && fitsBytes 1 kind && fitsBytes 1 tree && fitsBytes 1 first
        && fitsBytes 1 count
  | .confirm sender tag => fitsSender sender && fitsBytes 1 tag
  | .claimReceived peer _ tree index | .objectReceived peer _ tree index =>
      fitsSender peer && fitsBytes 1 tree && fitsBytes 1 index
  | .demandReceived peer committed excess homes =>
      fitsSender peer && fitsBytes 2 committed && fitsBytes 2 excess && fitsBytes 2 homes
  | .claimSentReport _ _ generation | .claimDroppedReport _ _ generation
  | .scoreQuenchRequest _ _ generation | .searchQuenchRequest _ _ generation
  | .undoRequest _ _ generation _ _ => fitsBytes 2 generation
  | .claimWaitExpiry _ _ | .admitWaitExpiry _ _ | .barHoldExpiry _ _ | .lostHoldExpiry _ _
  | .quenchHoldExpiry _ _ | .trimHoldEnd _ _ | .foreignTimerExpiry _ | .epochEnd => true
  | .pickupWaitExpiry tag | .confirmWaitExpiry tag =>
      decide (1 ≤ tag) && decide (tag ≤ Config.tagMax)
  | .helloCountdownExpiry | .takenFrameSent _ => true

end Sys2Proof
end

