-- ==== Sys2Proof/Decode.lean ====
section
/-! DEFINITION. The command that a word spells by the table's bits.  No row of spec/opcode_table.json
gives bits ("fields" is empty and there is no "fixed"), so no word spells a command.  The bit layouts
of chapter 11, in which requests reach the block, are read in Machine/Formats.lean. -/

namespace Sys2Proof

/-- The command that the `nbits` bits of `w` spell: none, since no row of the table gives bits.
DESIGN CHOICE: notes/assumptions/3.md. -/
def decodeTableWord (_nbits _w : Nat) : Option Instr := none

end Sys2Proof
end

