-- ==== Sys2Proof/Machine/State.lean ====
section
/-! DEFINITION. The state of the block as plain data: every piece of state that the manual gives the
JF8204, block by block, with the queue of waiting commands, and `State.reset`. -/

namespace Sys2Proof.Machine

/-! ### Faults and refusals -/

/-- No command of the block ends in a fault: the manual gives every one of them an effect.  The type is
closed and empty (safe: nothing raises it). -/
inductive Fault
  deriving DecidableEq, Repr

/-- Why the machine gives a command no meaning. -/
inductive Refusal
  /-- Raised by an arm of `exec` whose command has no meaning yet (safe: the machine stops).  No arm of
  this model raises it. -/
  | notModelled (mnemonic : String)
  deriving DecidableEq, Repr

/-! ### Fixed sets of names, in the code orders of R183 -/

/-- The chip states (R172, R178). -/
inductive ChipState
  | waitingSettings | running
  deriving DecidableEq, Repr

/-- The cause recorded for the last reset (R172). -/
inductive ResetCause
  | power | pin
  deriving DecidableEq, Repr

/-- The blocks that post messages (R59). -/
inductive Block
  | enrolment | share | monitor | meter | bus
  deriving DecidableEq, Repr

/-- The classes of shelf messages, URGENT 0, NORMAL 1, BULK 2 (R45). -/
inductive MsgClass
  | urgent | normal | bulk
  deriving DecidableEq, Repr

/-- The reasons of a DECLINED (R59, R183). -/
inductive DeclineReason
  | notFound | wrongState | capacity | badTier | badRange | locked
  deriving DecidableEq, Repr

/-- The reasons of a departed record (R41, R169, R183). -/
inductive DepartedReason
  | dismissed | refused | lostExpired | yielded | moved | restart | merged
  deriving DecidableEq, Repr

/-- The kinds of ALARM (R143, R183). -/
inductive AlarmKind
  | addressClash | rogueScore | relapseLimit | searchStart | rogueFound | foreignLight
  deriving DecidableEq, Repr

/-- The causes an ALARM carries (R143, R183). -/
inductive AlarmCause
  | sending | received | darkStreak | retry | ignoringDarken | confirmed | listEmpty | verifyFailed
  deriving DecidableEq, Repr

/-- The sources of a CLONE notice (R70, R76, R77, R183). -/
inductive CloneSource
  | reply | lateObjection | objected
  deriving DecidableEq, Repr

/-- The two kinds of READ (R158, R183). -/
inductive ReadKind
  | usage | departed
  deriving DecidableEq, Repr

/-- The subjects of a QUERY (R60, R183). -/
inductive QuerySubject
  | chip | tree | home
  deriving DecidableEq, Repr

/-- The requests on homes whose answers are matched by the serial (R183). -/
inductive SerialRequest
  | admission | refuse | release | dismiss
  deriving DecidableEq, Repr

/-- The cause that a record change notice carries (R28).  `undo` carries the prior relapses of the undo
request (R140). -/
inductive Cause
  | enrol | reenrol | claimDropped | claimDone | barredByPeer | admission | admitExpired | barExpired
  | refuse | release | dismiss | restart | lost | lostExpired | yielded | moved
  | scoreQuench | holdEnd | searchQuench | searchBar
  | undo (relapses : Option Nat)
  deriving DecidableEq, Repr

/-- How an entry of the transmit queue ends (R58). -/
inductive EntryEnd
  | sent | dropped | replaced
  deriving DecidableEq, Repr

/-- The light states of a tree, as they are reported (R122, R183). -/
inductive LightName
  | clear | search | verify | foreign | off
  deriving DecidableEq, Repr

/-! ### Usage figures (chapter 8) -/

/-- A count that saturates at 4294967295 with its flag (R145, R148). -/
structure Count where
  val : Nat
  sat : Bool
  deriving DecidableEq, Repr

/-- The open counters of a usage entry, or their copy in a snapshot or departed record (R145, R165). -/
structure Counters where
  up : Count
  down : Count
  activeRounds : Count
  throttledRounds : Count
  impairedRounds : Count
  deriving DecidableEq, Repr

def Count.zero : Count := ⟨0, false⟩

def Counters.zero : Counters := ⟨.zero, .zero, .zero, .zero, .zero⟩

/-- The Meter's usage entry of a tiered home (R145). -/
structure UsageEntry where
  counters : Counters
  residueUp : Nat
  residueDown : Nat
  interval : Nat
  /-- the tag of the readout whose snapshot holds this home's cut units -/
  inSnapshot : Option Nat
  deriving DecidableEq, Repr

/-- A record of the departed list (R154); `mark` is the tag of the readout that took it (R156). -/
structure DepartedRecord where
  serial : Serial
  tree : TreeId
  home : HomeIdx
  generation : Nat
  reason : DepartedReason
  interval : Nat
  counters : Counters
  mark : Option Nat
  deriving DecidableEq, Repr

/-- A snapshot record of a USAGE readout (R164, R165). -/
inductive SnapshotRecord
  | taken (serial : Serial) (tree : TreeId) (home : HomeIdx) (generation interval : Nat)
      (counters : Counters)
  | heldElsewhere (serial : Serial) (tree : TreeId) (home : HomeIdx) (generation tag : Nat)
  | empty (tree : TreeId) (home : HomeIdx) (state : RecordState)
  deriving DecidableEq, Repr

/-- The states of a readout entry (R158). -/
inductive ReadoutState
  | preparing | ready | delivered
  deriving DecidableEq, Repr

/-- What a readout entry asks for (R158). -/
inductive ReadoutRange
  | usage (tree : TreeId) (first : HomeIdx)
  | departed
  deriving DecidableEq, Repr

/-- An entry of the readout table (R158).  The snapshot of a DEPARTED entry is the set of departed
records that carry its tag (R163), so `snapshot` is empty for it. -/
structure Readout where
  requester : Nat
  range : ReadoutRange
  count : Nat
  tag : Nat
  state : ReadoutState
  /-- rounds remaining; `some 0` has run out and its expiry event is still to be taken -/
  timer : Option Nat
  snapshot : List SnapshotRecord
  deriving DecidableEq, Repr

/-- The Usage Meter, apart from the usage entries, which stand beside their home records. -/
structure Meter where
  /-- the readout table, in the order of creation (R158, R161) -/
  readouts : List Readout
  nextTag : Nat
  missedPickups : Nat
  /-- the departed list, oldest first (R155) -/
  departed : List DepartedRecord
  /-- the departed-loss counter (R155), without a saturated flag; DEDUCED: notes/assumptions/27.md -/
  departedLoss : Nat
  deriving DecidableEq, Repr

/-! ### The Home Table (chapter 2) -/

/-- A home record (R26).  An absent field is `none`. -/
structure HomeRecord where
  state : RecordState
  serial : Option Serial
  generation : Nat
  tier : Option (Fin 8)
  quota : Option Nat
  rtt : Option Nat
  eqd : Option Nat
  enrolLevel : Option Int
  lastLevel : Option Int
  silence : Option Nat
  /-- rounds remaining; `some 0` has run out and its expiry event is still to be taken (R36) -/
  stateTimer : Option Nat
  contested : Option Nat
  backlog : Option Nat
  pollCountdown : Option Nat
  throttled : Option Bool
  rogueScore : Option Nat
  relapses : Option Nat
  testDark : Option Bool
  deriving DecidableEq, Repr

/-- A home record with what the blocks keep beside it: the Planner's report slot (R90), the Controller's
trim hold (R84: `none` at rest, `some 0` run out with its end still to be taken), the Meter's usage
entry (R145). -/
structure Home where
  record : HomeRecord
  reportSlot : Option Nat
  trimHold : Option Nat
  usage : Option UsageEntry
  deriving DecidableEq, Repr

/-- An entry of the serial index (R31). -/
structure SerialEntry where
  serial : Serial
  tree : TreeId
  home : HomeIdx
  deriving DecidableEq, Repr

/-! ### Plans, control words, the Transmitter and the Receiver (chapter 1) -/

/-- A grant of a plan, with the generation it carries inside the chip (R6, R104). -/
structure Grant where
  home : HomeIdx
  start : Nat
  payload : Nat
  generation : Nat
  deriving DecidableEq, Repr

/-- A plan: the round it covers, its grants in ascending home index, and whether it carries the CALL
entry (R104). -/
structure Plan where
  round : Nat
  grants : List Grant
  call : Bool
  deriving DecidableEq, Repr

/-- A downstream control word (R7).  TEST-DARK carries the round of the map it belongs to (R10). -/
inductive ControlWord
  | setDelay (home : HomeIdx) (serial : Serial) (eqd : Nat)
  | darken (home : HomeIdx)
  | light (home : HomeIdx)
  | testDark (round : Nat) (homes : List HomeIdx)
  | dismiss (home : HomeIdx)
  | dismissAll
  deriving DecidableEq, Repr

/-- A downstream frame taken and not yet sent (R23). -/
structure TakenFrame where
  home : HomeIdx
  bytes : List Byte
  deriving DecidableEq, Repr

/-- A Tree Transmitter (R8, R12, R23). -/
structure Transmitter where
  /-- the control-word queue, oldest first -/
  words : List ControlWord
  /-- the drop counter (R9), without a saturated flag; DEDUCED: notes/assumptions/27.md -/
  drops : Nat
  pendingPlans : List Plan
  sentPlan : Option Plan
  /-- the taken downstream frames, in the order taken -/
  taken : List TakenFrame
  /-- bytes of this round that the downstream line has left after the header and the frames sent -/
  lineRoom : Nat
  deriving DecidableEq, Repr

/-- The open receive window: its plan, the headers found so far, how many of its grants are settled, the
steps at which the spans of the overrun tests began (R13, R16), and where the delineator stands in the
discovery window, with whether it is waiting for the level to fall (R21).  `lit` is the running lit count
of R13 and R19: 0 when the window opens; the levels of a window's blocks reach the model together, in
`roundReceiveEnd`, so it gains there. -/
structure Window where
  plan : Plan
  headers : List FoundHeader
  settled : Nat
  lit : Nat
  testSpans : List Int
  replyStep : Nat
  replyBlind : Bool
  deriving DecidableEq, Repr

/-- A Tree Receiver (R13). -/
structure Receiver where
  window : Option Window
  awaiting : List Plan
  lastLit : Option Nat
  deriving DecidableEq, Repr

/-! ### The Rogue Light Monitor (chapter 7) -/

/-- The step phase of a search (R122, R131, R132). -/
inductive StepPhase
  | chosen
  | testing (round : Nat)
  | void (round : Nat)
  deriving DecidableEq, Repr

/-- The data of SEARCH (R122): the candidate list is the test half with the rest. -/
structure Search where
  clearStreak : Nat
  testHalf : List HomeIdx
  rest : List HomeIdx
  phase : StepPhase
  deriving DecidableEq, Repr

/-- The verify data (R122, R136, R138, R141). -/
structure Verify where
  home : HomeIdx
  generation : Nat
  outcome : Option SearchOutcome
  startRound : Option Nat
  counted : Nat
  lit : Nat
  refuseNoted : Bool
  deriving DecidableEq, Repr

/-- A tree's light state with the data that goes with it (R122). -/
inductive Light
  | clear (darkStreak : Nat)
  | search (data : Search)
  | verify (data : Verify)
  /-- `timer` rounds remain; 0 has run out and its expiry event is still to be taken -/
  | foreign (timer : Nat)
  | off
  deriving DecidableEq, Repr

/-- An impairment mark (R129). -/
structure Mark where
  round : Nat
  notClear : Bool
  testDark : List HomeIdx
  deriving DecidableEq, Repr

/-! ### One tree -/

/-- The Enrolment Controller's figures of one tree (R64, R85), the counters without saturated flags.
DEDUCED: notes/assumptions/27.md. -/
structure EnrolFigures where
  countdown : Nat
  garbled : Nat
  rangeBad : Nat
  levelBad : Nat
  tableFull : Nat
  deriving DecidableEq, Repr

/-- Everything that the blocks hold of one tree. -/
structure Tree where
  homes : Vector Home 128
  tx : Transmitter
  rx : Receiver
  enrol : EnrolFigures
  /-- the Planner's home pointer (R100) -/
  homePointer : HomeIdx
  light : Light
  marks : List Mark
  upDiscards : Nat
  downDiscards : Nat
  /-- the header of the present round is still to be sent -/
  headerDue : Bool
  /-- block 1600 of the present round is still to come -/
  receiveDue : Bool
  deriving DecidableEq, Repr

/-! ### The shelf bus (chapter 3) -/

/-- The reference by which an answer is matched to its request (R183). -/
inductive Reference
  | settings
  | serial (request : SerialRequest) (serial : Serial)
  | restart (tree : Nat)
  | read (kind tree first count : Nat)
  | confirm (tag : Nat)
  | query (subject : Nat) (query : QueryBody)
  deriving DecidableEq, Repr

/-- The seven bus counters (R63), without saturated flags.  DEDUCED: notes/assumptions/27.md. -/
structure BusCounters where
  sent : Nat
  taken : Nat
  bad : Nat
  refused : Nat
  dropped : Nat
  clashes : Nat
  losses : Nat
  deriving DecidableEq, Repr

/-- The STATUS contents for QUERY CHIP (R61). -/
structure ChipStatus where
  round : Nat
  address : Nat
  chipState : ChipState
  cause : ResetCause
  enabled : BitVec 4
  managers : List Nat
  urgent : Nat
  normal : Nat
  bulk : Nat
  onLine : Bool
  counters : BusCounters
  share : Nat
  own : Option (Nat × Nat)
  peers : Nat
  readouts : Nat
  departed : Nat
  departedLoss : Nat
  missedPickups : Nat
  deriving DecidableEq, Repr

/-- The STATUS contents for QUERY TREE (R62). -/
structure TreeStatus where
  round : Nat
  tree : TreeId
  enabled : Bool
  light : LightName
  /-- the number of records in each state, in code order -/
  byState : List Nat
  crSum : Nat
  countdown : Nat
  priority : Nat
  ordinary : Nat
  drops : Nat
  upDiscards : Nat
  downDiscards : Nat
  lastLit : Option Nat
  garbled : Nat
  rangeBad : Nat
  levelBad : Nat
  tableFull : Nat
  deriving DecidableEq, Repr

/-- The STATUS contents for QUERY HOME (R42). -/
structure HomeStatus where
  round : Nat
  tree : TreeId
  home : HomeIdx
  record : HomeRecord
  deriving DecidableEq, Repr

inductive StatusBody
  | chip (status : ChipStatus)
  | tree (status : TreeStatus)
  | home (status : HomeStatus)
  deriving DecidableEq, Repr

/-- The records that a DATA carries (R162, R186). -/
inductive DataRecord
  | snapshot (record : SnapshotRecord)
  | departed (record : DepartedRecord)
  deriving DecidableEq, Repr

/-- The fields of an ALARM body (R143, R183); a field that the kind leaves unused is 0. -/
structure Alarm where
  kind : AlarmKind
  tree : Nat
  round : Nat
  cause : Option AlarmCause
  home : Nat
  serial : Serial
  generation : Nat
  relapses : Nat
  holdRuns : Bool
  state : Option RecordState
  figure : Nat
  deriving DecidableEq, Repr

/-- The fields of a CLONE body (R70, R76, R77, R183); a field that the source leaves unused is 0. -/
structure Clone where
  serial : Serial
  tree : TreeId
  home : HomeIdx
  state : RecordState
  contested : Nat
  source : CloneSource
  replyTree : Nat
  rtt : Nat
  level : Int
  peer : Nat
  deriving DecidableEq, Repr

/-- The fields of a QUOTA body (R152). -/
structure QuotaNotice where
  serial : Serial
  tree : TreeId
  home : HomeIdx
  generation : Nat
  interval : Nat
  quota : Nat
  total : Nat
  round : Nat
  deriving DecidableEq, Repr

/-- The messages that the chip posts (R59), with the fields of their bodies (R183). -/
inductive Msg
  | hello (address : Nat) (cause : ResetCause) (chipState : ChipState) (round : Nat)
  | demand (committed excess homes : Nat)
  | claim (serial : Serial) (tree : TreeId) (home : HomeIdx)
  | object (serial : Serial) (tree index : Nat)
  | found (serial : Serial) (tree : TreeId) (home : HomeIdx) (rtt : Nat) (level : Int)
  | clone (body : Clone)
  | quota (body : QuotaNotice)
  | alarm (body : Alarm)
  | accepted (ref : Reference) (inForce : Option Settings)
  | declined (ref : Reference) (reason : DeclineReason) (inForce : Option Settings)
  | pending (ref : Reference) (tag : Nat)
  | busy (ref : Reference)
  | data (ref : Reference) (tag first count : Nat) (records : List DataRecord)
  | stale (ref : Reference)
  | status (ref : Reference) (body : StatusBody)
  deriving DecidableEq, Repr

/-- The record that a CLAIM's handle names (R55, R73). -/
structure Handle where
  tree : TreeId
  home : HomeIdx
  generation : Nat
  deriving DecidableEq, Repr

/-- An entry of the transmit queue (R55).  Its class is that of its message's kind (R59) and its age is
its place in the queue. -/
structure TxEntry where
  dest : Nat
  msg : Msg
  producer : Block
  handle : Option Handle
  clashes : Nat
  onLine : Bool
  deriving DecidableEq, Repr

/-- The Shelf Bus Interface with the chip-wide values it owns (chapters 3 and 10). -/
structure Bus where
  chipState : ChipState
  resetCause : ResetCause
  address : Nat
  /-- the settings in force, absent while the chip waits (R173) -/
  settings : Option Settings
  /-- the manager set, first member first (R53) -/
  managers : List Nat
  /-- openings until the next HELLO; `some 0` has run out; stopped in RUNNING (R174) -/
  helloCountdown : Option Nat
  /-- the line has been seen idle since the reset (R46) -/
  lineSeen : Bool
  /-- the frame being received is the rest of one that clashed under R47 -/
  clashFrame : Bool
  /-- the transmit queue, oldest first (R55) -/
  queue : List TxEntry
  counters : BusCounters
  deriving DecidableEq, Repr

/-! ### The Share Unit (chapter 6) -/

/-- An entry of the peer table (R113). -/
structure Peer where
  address : Nat
  committed : Nat
  excess : Nat
  age : Nat
  deriving DecidableEq, Repr

/-- The chip's own demand as computed at the last epoch end (R110). -/
structure OwnDemand where
  committed : Nat
  excess : Nat
  homes : Nat
  deriving DecidableEq, Repr

/-- The Share Unit (R108). -/
structure ShareUnit where
  epoch : Nat
  peers : List Peer
  own : Option OwnDemand
  share : Nat
  deriving DecidableEq, Repr

/-! ### What leaves the chip -/

/-- The model's record of what the chip put out on its ports and told its producers. -/
inductive Output
  /-- a round header, as its bytes (R5, R186) -/
  | header (tree : TreeId) (bytes : List Byte)
  /-- a downstream frame (R23) -/
  | downstream (tree : TreeId) (home : HomeIdx) (bytes : List Byte)
  /-- payload forwarded to the shelf switch (R22) -/
  | upstream (tree : TreeId) (home : HomeIdx) (bytes : List Byte)
  /-- a frame sent whole on the shelf line, as its bits with start and marker bits (R45, R48) -/
  | shelf (bits : List Bool)
  /-- a producer told the end of an entry it posted (R58) -/
  | told (fin : EntryEnd) (entry : TxEntry)
  deriving DecidableEq, Repr

/-! ### The whole state -/

/-- The state of the JF8204. -/
structure State where
  /-- the commands that are waiting, first in, first out -/
  pending : List Instr
  /-- frames handed on to a block, and requests and reports between blocks, that the owner has not yet
  taken, oldest first (R27, R54, R58) -/
  inFlight : List Instr
  /-- the reset in progress, if any (R172) -/
  inReset : Option ResetCause
  /-- the chip round number (R1) -/
  round : Nat
  /-- the plan build of the present round is still to be taken (R86) -/
  buildDue : Bool
  /-- an epoch end is still to be taken (R108) -/
  epochDue : Bool
  bus : Bus
  share : ShareUnit
  /-- the Planner's tree pointer (R99) -/
  treePointer : TreeId
  meter : Meter
  serialIndex : List SerialEntry
  trees : Vector Tree 4
  /-- what the chip has put out, newest first -/
  outputs : List Output
  deriving DecidableEq, Repr

/-! ### Reset values -/

/-- A FREE record that has never been allocated (R29, R43). -/
def HomeRecord.reset : HomeRecord where
  state := .free
  serial := none
  generation := 0
  tier := none
  quota := none
  rtt := none
  eqd := none
  enrolLevel := none
  lastLevel := none
  silence := none
  stateTimer := none
  contested := none
  backlog := none
  pollCountdown := none
  throttled := none
  rogueScore := none
  relapses := none
  testDark := none

def Home.reset : Home where
  record := .reset
  reportSlot := none
  trimHold := none
  usage := none

/-- A tree after a reset (R12, R13, R24, R43, R85, R107, R122). -/
def Tree.reset : Tree where
  homes := Vector.replicate 128 .reset
  tx := { words := [], drops := 0, pendingPlans := [], sentPlan := none, taken := [], lineRoom := 0 }
  rx := { window := none, awaiting := [], lastLit := none }
  enrol := { countdown := 0, garbled := 0, rangeBad := 0, levelBad := 0, tableFull := 0 }
  homePointer := 0
  light := .off
  marks := []
  upDiscards := 0
  downDiscards := 0
  headerDue := false
  receiveDue := false

def BusCounters.reset : BusCounters := ⟨0, 0, 0, 0, 0, 0, 0⟩

/-- The Share Unit after a reset (R121). -/
def ShareUnit.reset : ShareUnit := { epoch := 0, peers := [], own := none, share := 0 }

/-- The Usage Meter after a reset (R157, R171). -/
def Meter.reset : Meter :=
  { readouts := [], nextTag := 1, missedPickups := 0, departed := [], departedLoss := 0 }

/-- The HELLO that the end of a reset posts (R174). -/
def TxEntry.firstHello (cause : ResetCause) (address : Nat) : TxEntry where
  dest := Config.allStations
  msg := .hello address cause .waitingSettings 0
  producer := .bus
  handle := none
  clashes := 0
  onLine := false

/-- The Interface at the end of a reset with the cause and the station address given
(R44, R46, R63, R172, R174). -/
def Bus.reset (cause : ResetCause) (address : Nat) : Bus where
  chipState := .waitingSettings
  resetCause := cause
  address := address
  settings := none
  managers := []
  helloCountdown := some Config.helloEvery
  lineSeen := false
  clashFrame := false
  queue := [.firstHello cause address]
  counters := .reset

/-- The machine at the end of a reset (R172), apart from the model's own queue of waiting commands and
record of outputs, which are empty here. -/
def State.afterReset (cause : ResetCause) (address : Nat) : State where
  pending := []
  inFlight := []
  inReset := none
  round := 0
  buildDue := false
  epochDue := false
  bus := .reset cause address
  share := .reset
  treePointer := 0
  meter := .reset
  serialIndex := []
  trees := Vector.replicate 4 .reset
  outputs := []

/-- The machine right after a power-on reset with every strap reading 0: the straps are a pin, so their
value is a DESIGN CHOICE, as is the cause POWER (notes/assumptions/1.md). -/
def State.reset : State := .afterReset .power 0

end Sys2Proof.Machine
end

