-- ==== Sys2Proof/Machine/Ops.lean ====
section
/-! DEFINITION. The shared operations over the state: reading and changing trees and records, timers,
the control-word queue, the transmit queue, the serial index, a change of a record's state with its
notices, the departed hand-off and the quota. -/

namespace Sys2Proof.Machine

/-- What one command answers. -/
abbrev Result := Host.Outcome State Fault Refusal

/-! ### Counters and timers -/

/-- A counter that saturates at 4294967295 gains 1 (R9, R22, R63, R85, R155, R171).  It keeps no flag.
DEDUCED: notes/assumptions/27.md. -/
def bump (n : Nat) : Nat := min (n + 1) Config.counterMax

/-- A timer started with `n` rounds; a value of 0 counts as 1 (R36, R142). -/
def startTimer (n : Nat) : Nat := max n 1

/-- A timer at a round opening: it decreases by 1, and one that has run out stays for its expiry event
(R36, R84, R158). DESIGN CHOICE: notes/assumptions/5.md. -/
def tick (timer : Option Nat) : Option Nat := timer.map (· - 1)

/-- The round number `n` rounds after `m` (R1). -/
def roundAdd (m n : Nat) : Nat := (m + n) % Config.roundWrap

/-- How many rounds after `v` round `m` is (R1). -/
def roundsSince (v m : Nat) : Nat := (m + Config.roundWrap - v) % Config.roundWrap

/-- A level within its range: clamped to −400 to −50 (R14, R17, R21, R176). -/
def clampLevel (level : Int) : Int := max (-400) (min level (-50))

/-! ### Lists kept in order of age -/

/-- The youngest entry (the last one) that satisfies `p`. -/
def youngest? {α : Type} (p : α → Bool) (l : List α) : Option α := l.reverse.find? p

/-- The list without its youngest entry that satisfies `p`. -/
def dropYoungest {α : Type} (p : α → Bool) (l : List α) : List α := (l.reverse.eraseP p).reverse

/-- The list without its oldest `k` entries that satisfy `p`. -/
def dropOldest {α : Type} (p : α → Bool) : Nat → List α → List α
  | 0, l => l
  | _ + 1, [] => []
  | k + 1, a :: l => if p a then dropOldest p k l else a :: dropOldest p (k + 1) l

/-- The list's `k` youngest entries. DEDUCED: notes/assumptions/11.md. -/
def keepYoungest {α : Type} (k : Nat) (l : List α) : List α := l.drop (l.length - k)

/-! ### Record states and settings -/

/-- ACTIVE, QUENCHED and LOST are the tiered states (R26). -/
def isTiered : RecordState → Bool
  | .active | .quenched | .lost => true
  | .free | .claiming | .awaiting | .barred => false

/-- Settings of all zeros: what a reader that needs a setting finds where none is in force, which is
only while the chip waits, when no rule reads one. DESIGN CHOICE: notes/assumptions/24.md. -/
def blankSettings : Settings where
  enabled := 0
  capacity := 0
  admitCap := 0
  tiers := Vector.replicate 8 ⟨0, 0⟩
  unitExp := 0
  callEvery := 0
  pollEvery := 0
  silentLimit := 0
  levelMin := 0
  levelMax := 0
  litLevel := 0
  darkLitMin := 0
  darkRounds := 0
  verifyRounds := 0
  scoreLimit := 0
  relapseLimit := 0
  claimWait := 0
  admitWait := 0
  lostHold := 0
  quenchHold := 0
  barHold := 0
  foreignRetry := 0
  pickupWait := 0
  confirmWait := 0
  secondManager := 31
  aliasOn := false

/-- The settings in force (R177). DESIGN CHOICE: notes/assumptions/24.md. -/
def State.cfg (s : State) : Settings := s.bus.settings.getD blankSettings

/-- The chip state is RUNNING (R178). -/
def State.running (s : State) : Bool := decide (s.bus.chipState = .running)

/-- Tree `t` is enabled (R25); every tree counts as disabled while the chip waits (R173). -/
def State.enabled (s : State) (t : TreeId) : Bool := s.running && s.cfg.enabled.getLsbD t

/-- The enabled trees in ascending order. -/
def State.enabledTrees (s : State) : List TreeId := allTrees.filter s.enabled

/-- CHIP_MAX of a set of enabled trees (R25). -/
def chipMaxOf (enabled : BitVec 4) : Nat :=
  Config.treeBlocks * (allTrees.filter (fun t => enabled.getLsbD t)).length

/-- CHIP_MAX of the settings in force (R25). -/
def State.chipMax (s : State) : Nat := chipMaxOf s.cfg.enabled

/-- The rates of a tier in force. -/
def State.rates (s : State) (tier : Fin 8) : TierRates := s.cfg.tiers.get tier

/-! ### Trees, homes and records -/

def State.tree (s : State) (t : TreeId) : Tree := s.trees.get t

def State.modTree (s : State) (t : TreeId) (f : Tree → Tree) : State :=
  { s with trees := s.trees.set t.val (f (s.tree t)) t.isLt }

def Tree.home (tr : Tree) (h : HomeIdx) : Home := tr.homes.get h

def Tree.modHome (tr : Tree) (h : HomeIdx) (f : Home → Home) : Tree :=
  { tr with homes := tr.homes.set h.val (f (tr.home h)) h.isLt }

def State.home (s : State) (t : TreeId) (h : HomeIdx) : Home := (s.tree t).home h

def State.record (s : State) (t : TreeId) (h : HomeIdx) : HomeRecord := (s.home t h).record

def State.modHome (s : State) (t : TreeId) (h : HomeIdx) (f : Home → Home) : State :=
  s.modTree t (fun tr => tr.modHome h f)

def State.modRecord (s : State) (t : TreeId) (h : HomeIdx) (f : HomeRecord → HomeRecord) : State :=
  s.modHome t h (fun x => { x with record := f x.record })

/-- Every home of a tree changed by a function of its index. -/
def Tree.mapHomes (tr : Tree) (f : HomeIdx → Home → Home) : Tree :=
  { tr with homes := tabulate (fun h => f h (tr.home h)) }

/-- Every tree changed by a function of its number. -/
def State.mapTrees (s : State) (f : TreeId → Tree → Tree) : State :=
  { s with trees := tabulate (fun t => f t (s.tree t)) }

def State.modBus (s : State) (f : Bus → Bus) : State := { s with bus := f s.bus }

def State.modCounters (s : State) (f : BusCounters → BusCounters) : State :=
  s.modBus (fun b => { b with counters := f b.counters })

def State.modMeter (s : State) (f : Meter → Meter) : State := { s with meter := f s.meter }

def State.setLight (s : State) (t : TreeId) (light : Light) : State :=
  s.modTree t (fun tr => { tr with light := light })

/-- The chip puts something out. DESIGN CHOICE: notes/assumptions/7.md. -/
def State.emit (s : State) (o : Output) : State := { s with outputs := o :: s.outputs }

/-- A request, report or frame is handed to its owner, which takes it as an event of its own
(R27, R54). DESIGN CHOICE: notes/assumptions/4.md. -/
def State.raise (s : State) (c : Instr) : State := { s with inFlight := s.inFlight ++ [c] }

/-- The owner takes what command `c` spells: the oldest such item still in flight is no longer so.
DESIGN CHOICE: notes/assumptions/4.md. -/
def State.take (s : State) (c : Instr) : State := { s with inFlight := s.inFlight.erase c }

/-- No command has an effect while a reset lasts, but those of the reset itself (R172).
DESIGN CHOICE: notes/assumptions/6.md. -/
def State.whileUp (s t : State) : Result := .next (if s.inReset.isSome then s else t)

/-! ### Who may send what (R50, R52, R54, R175) -/

/-- A frame with this sender reaches a block: the chip's own address never does (R50).
DESIGN CHOICE: notes/assumptions/23.md. -/
def State.hears (s : State) (sender : Nat) : Bool := decide (sender ≠ s.bus.address)

/-- A frame of a peer is handed on while the chip is RUNNING, from any sender (R54). -/
def State.hearsPeer (s : State) (sender : Nat) : Bool := s.running && s.hears sender

/-- A management request is handed on in RUNNING from a member of the manager set (R54). -/
def State.obeys (s : State) (sender : Nat) : Bool :=
  s.running && s.hears sender && s.bus.managers.contains sender

/-- The QUERY of command `c` has been handed on, or would be now: from a manager in RUNNING, and from any
sender while the chip waits (R52, R54, R60).  One handed on while the chip waited is answered though a
SETTINGS has been accepted since. -/
def State.answersQuery (s : State) (c : Instr) (sender : Nat) : Bool :=
  s.hears sender && (!s.running || s.bus.managers.contains sender || s.inFlight.contains c)

/-! ### The control-word queue (R8, R9) -/

/-- DARKEN, LIGHT, TEST-DARK and DISMISS-ALL are PRIORITY words, SET-DELAY and DISMISS ORDINARY (R7). -/
def ControlWord.priority : ControlWord → Bool
  | .darken _ | .light _ | .testDark _ _ | .dismissAll => true
  | .setDelay _ _ _ | .dismiss _ => false

def ControlWord.ordinary (w : ControlWord) : Bool := !w.priority

/-- A word is queued (R8); on a full queue a PRIORITY newcomer displaces the youngest ORDINARY word, and
any other newcomer is dropped (R9).  The second part says whether the newcomer was dropped. -/
def Transmitter.push (tx : Transmitter) (w : ControlWord) : Transmitter × Bool :=
  if tx.words.length < Config.wordPlaces then
    ({ tx with words := tx.words ++ [w] }, false)
  else if w.priority && tx.words.any ControlWord.ordinary then
    ({ tx with words := dropYoungest ControlWord.ordinary tx.words ++ [w], drops := bump tx.drops },
      false)
  else ({ tx with drops := bump tx.drops }, true)

/-- A word is queued on tree `t`. -/
def State.queueWord (s : State) (t : TreeId) (w : ControlWord) : State :=
  s.modTree t (fun tr => { tr with tx := (tr.tx.push w).1 })

/-! ### The transmit queue (R55 to R59) -/

/-- The class of a message's kind (R59). -/
def Msg.cls : Msg → MsgClass
  | .object _ _ _ | .alarm _ => .urgent
  | .demand _ _ _ | .quota _ => .bulk
  | .claim _ _ _ | .found _ _ _ _ _ | .clone _ | .hello _ _ _ _ | .accepted _ _ | .declined _ _ _
  | .pending _ _ | .busy _ | .data _ _ _ _ _ | .stale _ | .status _ _ => .normal

def TxEntry.cls (e : TxEntry) : MsgClass := e.msg.cls

/-- An entry of class `c` that is not on the line: one that may be displaced (R55, R56). -/
def TxEntry.waits (c : MsgClass) (e : TxEntry) : Bool := decide (e.cls = c) && !e.onLine

/-- An entry of the same replacing kind as `m` that is not on the line (R57). -/
def TxEntry.replacedBy (m : Msg) (e : TxEntry) : Bool :=
  !e.onLine && match m, e.msg with
    | .demand _ _ _, .demand _ _ _ => true
    | .hello _ _ _ _, .hello _ _ _ _ => true
    | _, _ => false

/-- The class that gives way to a newcomer of class `c` on a full queue (R56). -/
def displacedClass (c : MsgClass) (q : List TxEntry) : Option MsgClass :=
  match c with
  | .urgent =>
      if q.any (TxEntry.waits .bulk) then some .bulk
      else if q.any (TxEntry.waits .normal) then some .normal else none
  | .normal => if q.any (TxEntry.waits .bulk) then some .bulk else none
  | .bulk => none

/-- A producer is told the end of an entry (R58).  Only a CLAIM's producer acts on the report: it
reaches the Enrolment Controller as a request (R73). -/
def State.tell (s : State) (fin : EntryEnd) (e : TxEntry) : State :=
  let s := s.emit (.told fin e)
  match e.handle, fin with
  | some h, .sent => s.raise (.claimSentReport h.tree h.home h.generation)
  | some h, .dropped => s.raise (.claimDroppedReport h.tree h.home h.generation)
  | _, _ => s

def State.setQueue (s : State) (q : List TxEntry) : State := s.modBus (fun b => { b with queue := q })

/-- The dropped messages counter gains 1 (R56, R63). -/
def State.countDropped (s : State) : State :=
  s.modCounters (fun c => { c with dropped := bump c.dropped })

/-- An entry is posted: as a replacement (R57), as the youngest entry (R55), by displacing an entry, or
not at all (R56).  Where two of a replacing kind wait, as after a lost contention, the youngest is the
one replaced.  DESIGN CHOICE: notes/assumptions/28.md. -/
def State.postEntry (s : State) (e : TxEntry) : State :=
  let q := s.bus.queue
  match youngest? (TxEntry.replacedBy e.msg) q with
  | some old => (s.setQueue (dropYoungest (TxEntry.replacedBy e.msg) q ++ [e])).tell .replaced old
  | none =>
    if q.length < Config.queuePlaces then s.setQueue (q ++ [e])
    else match displacedClass e.cls q with
      | some c =>
        match youngest? (TxEntry.waits c) q with
        | some old => ((s.setQueue (dropYoungest (TxEntry.waits c) q ++ [e])).countDropped).tell .dropped old
        | none => (s.countDropped).tell .dropped e
      | none => (s.countDropped).tell .dropped e

/-- A block posts a message that it follows by no handle. -/
def State.post (s : State) (producer : Block) (dest : Nat) (m : Msg) : State :=
  s.postEntry { dest := dest, msg := m, producer := producer, handle := none, clashes := 0,
                onLine := false }

/-- The Controller posts a CLAIM, with the record as its handle (R73). -/
def State.postClaim (s : State) (h : Handle) (serial : Serial) : State :=
  s.postEntry { dest := Config.allStations, msg := .claim serial h.tree h.home,
                producer := .enrolment, handle := some h, clashes := 0, onLine := false }

/-- The head of the queue: the oldest URGENT entry, failing that the oldest NORMAL, failing that the
oldest BULK entry (R55). -/
def queueHead? (q : List TxEntry) : Option TxEntry :=
  (q.find? (fun e => decide (e.cls = .urgent))).or
    ((q.find? (fun e => decide (e.cls = .normal))).or (q.find? (fun e => decide (e.cls = .bulk))))

/-- An ALARM with every further field unused (R181). -/
def plainAlarm (kind : AlarmKind) (tree round : Nat) (cause : Option AlarmCause) : Alarm where
  kind := kind
  tree := tree
  round := round
  cause := cause
  home := 0
  serial := 0
  generation := 0
  relapses := 0
  holdRuns := false
  state := none
  figure := 0

/-- The Monitor posts an alarm to all stations (R143). -/
def State.alarm (s : State) (a : Alarm) : State := s.post .monitor Config.allStations (.alarm a)

/-! ### The serial index (R31) -/

/-- The record that holds a serial, if one does (R31). DESIGN CHOICE: notes/assumptions/20.md. -/
def State.lookup (s : State) (serial : Serial) : Option (TreeId × HomeIdx) :=
  (s.serialIndex.find? (fun e => decide (e.serial = serial))).map (fun e => (e.tree, e.home))

/-- The serial index gains an entry, at an allocation (R31). -/
def State.indexSerial (s : State) (serial : Serial) (t : TreeId) (h : HomeIdx) : State :=
  { s with serialIndex := s.serialIndex ++ [⟨serial, t, h⟩] }

/-- The serial index loses the entry of a record that becomes FREE (R31). -/
def State.unindex (s : State) (t : TreeId) (h : HomeIdx) : State :=
  { s with serialIndex := s.serialIndex.filter (fun e => !(decide (e.tree = t) && decide (e.home = h))) }

/-! ### Usage counters (R148) and the departed list (R155) -/

/-- A count gains `n`, saturating with its flag (R148). -/
def Count.add (c : Count) (n : Nat) : Count :=
  if Config.counterMax < c.val + n then ⟨Config.counterMax, true⟩ else ⟨c.val + n, c.sat⟩

/-- A snapshot's count is merged back: it is added, and its flag is kept (R169). -/
def Count.merge (c r : Count) : Count := ⟨(c.add r.val).val, (c.add r.val).sat || r.sat⟩

/-- The five counters of a snapshot record are merged back (R169). -/
def Counters.merge (c r : Counters) : Counters where
  up := c.up.merge r.up
  down := c.down.merge r.down
  activeRounds := c.activeRounds.merge r.activeRounds
  throttledRounds := c.throttledRounds.merge r.throttledRounds
  impairedRounds := c.impairedRounds.merge r.impairedRounds

/-- A departed record is appended.  A full list first loses its oldest unmarked record, which is counted
(R155).  The manual shows that one is always unmarked; in a state no run reaches, where none is, the
newcomer is the record lost. DEDUCED: notes/assumptions/11.md. -/
def Meter.append (m : Meter) (d : DepartedRecord) : Meter :=
  if m.departed.length < Config.departedPlaces then { m with departed := m.departed ++ [d] }
  else if m.departed.any (fun x => x.mark.isNone) then
    { m with departed := m.departed.eraseP (fun x => x.mark.isNone) ++ [d],
             departedLoss := bump m.departedLoss }
  else { m with departedLoss := bump m.departedLoss }

/-- The departed hand-off (R41): the Meter writes the departed record from the usage entry and removes
the entry (R154).  It is made before the record's change of state. -/
def State.handOff (s : State) (t : TreeId) (h : HomeIdx) (reason : DepartedReason) : State :=
  let x := s.home t h
  match x.usage with
  | none => s
  | some u =>
    (s.modMeter (·.append { serial := x.record.serial.getD 0, tree := t, home := h,
                            generation := x.record.generation, reason := reason,
                            interval := u.interval, counters := u.counters, mark := none })).modHome
      t h (fun y => { y with usage := none })

/-- The hand-off that a change from the tiered states to FREE or BARRED makes (R41). -/
def State.handOffTiered (s : State) (t : TreeId) (h : HomeIdx) (reason : DepartedReason) : State :=
  if isTiered (s.record t h).state then s.handOff t h reason else s

/-! ### The quota (R151 to R153) -/

/-- The up and down units that a snapshot record holds for the home at an index. -/
def SnapshotRecord.unitsOf (t : TreeId) (h : HomeIdx) : SnapshotRecord → Nat
  | .taken _ t' h' _ _ c => if t' = t ∧ h' = h then c.up.val + c.down.val else 0
  | .heldElsewhere _ _ _ _ _ | .empty _ _ _ => 0

/-- The snapshot units of a home whose in_snapshot holds `tag` (R151). -/
def Meter.snapshotUnits (m : Meter) (tag : Nat) (t : TreeId) (h : HomeIdx) : Nat :=
  match m.readouts.find? (fun e => decide (e.tag = tag)) with
  | some e => (e.snapshot.map (SnapshotRecord.unitsOf t h)).sum
  | none => 0

/-- The total that is tested against the quota: open units with snapshot units (R151). -/
def State.quotaTotal (s : State) (t : TreeId) (h : HomeIdx) : Nat :=
  match (s.home t h).usage with
  | none => 0
  | some u =>
    u.counters.up.val + u.counters.down.val
      + (match u.inSnapshot with
         | some tag => s.meter.snapshotUnits tag t h
         | none => 0)

/-- The QUOTA notice of a record (R152). -/
def State.quotaNotice (s : State) (t : TreeId) (h : HomeIdx) : QuotaNotice where
  serial := (s.record t h).serial.getD 0
  tree := t
  home := h
  generation := (s.record t h).generation
  interval := match (s.home t h).usage with
    | some u => u.interval
    | none => 0
  quota := (s.record t h).quota.getD 0
  total := s.quotaTotal t h
  round := s.round

/-- The record's quota is above 0 and its total has reached it (R151). -/
def State.quotaReached (s : State) (t : TreeId) (h : HomeIdx) : Bool :=
  match (s.record t h).quota with
  | some q => decide (0 < q) && decide (q ≤ s.quotaTotal t h)
  | none => false

/-- The quota is evaluated: a throttle that is "no" is set when the total reaches the quota, with a
QUOTA notice (R151, R152). -/
def State.evaluateQuota (s : State) (t : TreeId) (h : HomeIdx) : State :=
  if s.quotaReached t h && decide ((s.record t h).throttled = some false) then
    (s.modRecord t h (fun r => { r with throttled := some true })).post .meter Config.allStations
      (.quota (s.quotaNotice t h))
  else s

/-- The throttle is cleared when the quota is 0 or the total is below it (R153). -/
def State.clearThrottle (s : State) (t : TreeId) (h : HomeIdx) : State :=
  if s.quotaReached t h then s
  else s.modRecord t h (fun r => { r with throttled := r.throttled.map (fun _ => false) })

/-- The quota is looked at where a throttle may be set or cleared: at a quota notice and at a commit
(R151, R153). -/
def State.reviewQuota (s : State) (t : TreeId) (h : HomeIdx) : State :=
  (s.evaluateQuota t h).clearThrottle t h

/-! ### The test-dark flags (R130 to R135) -/

/-- The test_dark field of every record of a tree is set from its index: `some` while a search runs,
`none` otherwise (R130). -/
def State.setTestDark (s : State) (t : TreeId) (f : HomeIdx → Option Bool) : State :=
  s.modTree t (fun tr => tr.mapHomes (fun h x =>
    { x with record := { x.record with testDark := f h } }))

/-! ### A change of a record's state (R28) -/

/-- A field that is present in the tiered states only. -/
def keepIf {α : Type} (b : Bool) (x : Option α) : Option α := if b then x else none

/-- The record's fields on entering state `new` with the state timer given (R28).  Tier, quota,
throttled and relapses of an admission are set beforehand. -/
def HomeRecord.enter (r : HomeRecord) (new : RecordState) (timer : Option Nat) : HomeRecord :=
  let held := decide (new ≠ .free)
  let act := decide (new = .active)
  { state := new
    serial := keepIf held r.serial
    generation := r.generation
    tier := keepIf (isTiered new) r.tier
    quota := keepIf (isTiered new) r.quota
    rtt := keepIf held r.rtt
    eqd := keepIf held r.eqd
    enrolLevel := keepIf held r.enrolLevel
    lastLevel := keepIf held r.lastLevel
    silence := keepIf act (some 0)
    stateTimer := timer
    contested := keepIf held r.contested
    backlog := keepIf act (some 0)
    pollCountdown := keepIf act (some 0)
    throttled := keepIf (isTiered new) r.throttled
    rogueScore := keepIf act (some 0)
    relapses := keepIf (isTiered new) r.relapses
    testDark := r.testDark }

/-- Entering a state: the record's fields (R28), the report slot (R90) and the trim hold (R84). -/
def Home.enter (x : Home) (new : RecordState) (timer : Option Nat) : Home :=
  { x with record := x.record.enter new timer, reportSlot := none, trimHold := none }

/-- The relapses that a record change notice of a cause leaves (R126). -/
def relapsesAfter (limit : Nat) (cause : Cause) (relapses : Option Nat) : Option Nat :=
  match cause with
  | .scoreQuench | .searchQuench => relapses.map (fun n => min (n + 1) limit)
  | .release => relapses.map (fun _ => 0)
  | .undo prior => relapses.map (fun n => prior.getD n)
  | _ => relapses

/-- The ALARM ROGUE_SCORE of a quench by score (R125, R143). -/
def State.rogueScoreAlarm (s : State) (t : TreeId) (h : HomeIdx) : Alarm :=
  let r := s.record t h
  { plainAlarm .rogueScore t s.round none with
      home := h, serial := r.serial.getD 0, generation := r.generation,
      relapses := r.relapses.getD 0, holdRuns := r.stateTimer.isSome }

/-- The ALARM RELAPSE_LIMIT of a quench after which no QUENCH_HOLD runs (R125, R137, R143). -/
def State.relapseLimitAlarm (s : State) (t : TreeId) (h : HomeIdx) : Alarm :=
  let r := s.record t h
  { plainAlarm .relapseLimit t s.round none with
      home := h, serial := r.serial.getD 0, relapses := r.relapses.getD 0 }

/-- A RELAPSE_LIMIT alarm is posted where the quench left no timer running (R125, R137). -/
def State.alarmRelapseLimit (s : State) (t : TreeId) (h : HomeIdx) : State :=
  if (s.record t h).stateTimer.isNone then s.alarm (s.relapseLimitAlarm t h) else s

/-- A candidate leaves the search of its tree, and its test_dark flag is cleared (R135). -/
def State.removeCandidate (s : State) (t : TreeId) (h : HomeIdx) : State :=
  match (s.tree t).light with
  | .search d =>
    (s.setLight t (.search { d with testHalf := d.testHalf.filter (· ≠ h),
                                    rest := d.rest.filter (· ≠ h) })).modRecord
      t h (fun r => { r with testDark := r.testDark.map (fun _ => false) })
  | .clear _ | .verify _ | .foreign _ | .off => s

/-- The notice's effect on the verification of its record: the record freed, or returned to ACTIVE by a
RELEASE or the end of its QUENCH_HOLD, ends it; a REFUSE is noted (R141).
DEDUCED: notes/assumptions/13.md. -/
def State.noticeVerify (s : State) (t : TreeId) (h : HomeIdx) (new : RecordState) (cause : Cause) :
    State :=
  match (s.tree t).light with
  | .verify v =>
    if v.home = h ∧ v.generation = (s.record t h).generation then
      if new = .free ∨ (new = .active ∧ (cause = .release ∨ cause = .holdEnd)) then
        s.setLight t (.clear 0)
      else if cause = .refuse then s.setLight t (.verify { v with refuseNoted := true })
      else s
    else s
  | .clear _ | .search _ | .foreign _ | .off => s

/-- The Monitor takes a record change notice (R125, R126, R135, R141). -/
def State.noticeMonitor (s : State) (t : TreeId) (h : HomeIdx) (new : RecordState) (cause : Cause) :
    State :=
  let s := s.modRecord t h (fun r =>
    { r with relapses := relapsesAfter s.cfg.relapseLimit cause r.relapses })
  let s := if new = .free ∨ cause = .scoreQuench then s.removeCandidate t h else s
  let s := s.noticeVerify t h new cause
  if cause = .scoreQuench then (s.alarm (s.rogueScoreAlarm t h)).alarmRelapseLimit t h else s

/-- The usage entry of a home just admitted (R145). -/
def newUsage : UsageEntry :=
  { counters := .zero, residueUp := 0, residueDown := 0, interval := 0, inSnapshot := none }

/-- The Meter takes a record change notice: at an admission it makes the usage entry and evaluates the
quota (R145, R151). -/
def State.noticeMeter (s : State) (t : TreeId) (h : HomeIdx) (cause : Cause) : State :=
  if cause = .admission then (s.modHome t h (fun x => { x with usage := some newUsage })).evaluateQuota t h
  else s

/-- The Controller changes a record's state: the fields of R28, the serial index of R31, and the record
change notice to the Planner, the Monitor and the Meter (R28).  The Planner acts on the notice by
emptying the report slot, which `Home.enter` does. -/
def State.changeState (s : State) (t : TreeId) (h : HomeIdx) (new : RecordState) (timer : Option Nat)
    (cause : Cause) : State :=
  let s := s.modHome t h (fun x => x.enter new timer)
  let s := if new = .free then s.unindex t h else s
  (s.noticeMonitor t h new cause).noticeMeter t h cause

/-- A record becomes FREE and a DISMISS for its index is queued (R39, R73, R81, R82). -/
def State.freeWithDismiss (s : State) (t : TreeId) (h : HomeIdx) (cause : Cause) : State :=
  (s.changeState t h .free none cause).queueWord t (.dismiss h)

/-- A record becomes FREE after the departed hand-off it owes, and a DISMISS for its index is queued
(R35, R40, R72, R75). -/
def State.departWithDismiss (s : State) (t : TreeId) (h : HomeIdx) (reason : DepartedReason)
    (cause : Cause) : State :=
  (s.handOffTiered t h reason).freeWithDismiss t h cause

/-- The state timer of a quench: QUENCH_HOLD while the relapses, with this quench counted, are below
RELAPSE_LIMIT, and no timer otherwise (R36, R125, R137). -/
def State.quenchTimer (s : State) (t : TreeId) (h : HomeIdx) : Option Nat :=
  if (s.record t h).relapses.getD 0 + 1 < s.cfg.relapseLimit then some (startTimer s.cfg.quenchHold)
  else none

/-- The contested field gains 1, saturating at 255 without a flag (R70, R75, R76).
DEDUCED: notes/assumptions/27.md. -/
def State.contest (s : State) (t : TreeId) (h : HomeIdx) : State :=
  s.modRecord t h (fun r =>
    { r with contested := r.contested.map (fun n => min (n + 1) Config.contestedMax) })

/-- The record is still the one a request names: not FREE and of the generation named (R27). -/
def State.names (s : State) (t : TreeId) (h : HomeIdx) (generation : Nat) : Bool :=
  decide ((s.record t h).state ≠ .free) && decide ((s.record t h).generation = generation)

/-- The record is in `state` and its timer has run out (R36). DESIGN CHOICE: notes/assumptions/5.md. -/
def State.expired (s : State) (t : TreeId) (h : HomeIdx) (state : RecordState) : Bool :=
  decide ((s.record t h).state = state) && decide ((s.record t h).stateTimer = some 0)

end Sys2Proof.Machine
end

