-- ==== Sys2Proof/Machine/Flags.lean ====
section
/-! DEFINITION. Figures and flags read from the state: whether a round was lit, the demand of a home, the
CR sum, and the contents of the STATUS answers. -/

namespace Sys2Proof.Machine

/-! ### Demand (R93) -/

/-- The backlog on record (R90). -/
def HomeRecord.waiting (r : HomeRecord) : Nat := r.backlog.getD 0

/-- The rates of a record's tier. -/
def State.ratesOf (s : State) (r : HomeRecord) : TierRates := s.rates (r.tier.getD 0)

/-- c_h: committed demand (R93). -/
def committedDemand (rates : TierRates) (backlog : Nat) : Nat := min backlog rates.cr

/-- P_h: the most the home may be granted in a round (R93). -/
def peakOf (rates : TierRates) (throttled : Bool) : Nat := if throttled then rates.cr else rates.pr

/-- w_h: whole demand (R93). -/
def wholeDemand (rates : TierRates) (throttled : Bool) (backlog : Nat) : Nat :=
  min backlog (peakOf rates throttled)

/-- e_h: excess demand (R93). -/
def excessDemand (rates : TierRates) (throttled : Bool) (backlog : Nat) : Nat :=
  wholeDemand rates throttled backlog - committedDemand rates backlog

def State.committedOf (s : State) (r : HomeRecord) : Nat := committedDemand (s.ratesOf r) r.waiting

def State.wholeOf (s : State) (r : HomeRecord) : Nat :=
  wholeDemand (s.ratesOf r) (r.throttled.getD false) r.waiting

def State.excessOf (s : State) (r : HomeRecord) : Nat :=
  excessDemand (s.ratesOf r) (r.throttled.getD false) r.waiting

/-! ### Figures of a tree -/

/-- The records of a tree in ascending index. -/
def State.records (s : State) (t : TreeId) : List HomeRecord := allHomes.map (s.record t)

/-- The CR sum of a tree: CR over its tiered records (R78). -/
def State.crSum (s : State) (t : TreeId) : Nat :=
  ((s.records t).map (fun r => if isTiered r.state then (s.ratesOf r).cr else 0)).sum

/-- The number of a tree's records in a state (R62). -/
def State.countIn (s : State) (t : TreeId) (state : RecordState) : Nat :=
  (s.records t).countP (fun r => decide (r.state = state))

/-- The lowest-numbered FREE record of a tree (R29). -/
def State.lowestFree (s : State) (t : TreeId) : Option HomeIdx :=
  allHomes.find? (fun h => decide ((s.record t h).state = .free))

/-- A lit count makes its round lit (R122). -/
def State.isLit (s : State) (count : Nat) : Bool := decide (s.cfg.darkLitMin ≤ count)

/-- The light state as it is reported (R62). -/
def Light.name : Light → LightName
  | .clear _ => .clear
  | .search _ => .search
  | .verify _ => .verify
  | .foreign _ => .foreign
  | .off => .off

/-! ### STATUS contents -/

def State.countClass (s : State) (c : MsgClass) : Nat :=
  s.bus.queue.countP (fun e => decide (e.cls = c))

/-- The contents of a STATUS for QUERY CHIP (R61). -/
def State.chipStatus (s : State) : ChipStatus where
  round := s.round
  address := s.bus.address
  chipState := s.bus.chipState
  cause := s.bus.resetCause
  enabled := if s.running then s.cfg.enabled else 0
  managers := s.bus.managers
  urgent := s.countClass .urgent
  normal := s.countClass .normal
  bulk := s.countClass .bulk
  onLine := s.bus.queue.any (·.onLine)
  counters := s.bus.counters
  share := s.share.share
  own := s.share.own.map (fun d => (d.committed, d.excess))
  peers := s.share.peers.length
  readouts := s.meter.readouts.length
  departed := s.meter.departed.length
  departedLoss := s.meter.departedLoss
  missedPickups := s.meter.missedPickups

/-- The contents of a STATUS for QUERY TREE (R62). -/
def State.treeStatus (s : State) (t : TreeId) : TreeStatus where
  round := s.round
  tree := t
  enabled := s.enabled t
  light := (s.tree t).light.name
  byState := [RecordState.free, .claiming, .awaiting, .active, .quenched, .barred, .lost].map
    (s.countIn t)
  crSum := s.crSum t
  countdown := (s.tree t).enrol.countdown
  priority := (s.tree t).tx.words.countP ControlWord.priority
  ordinary := (s.tree t).tx.words.countP ControlWord.ordinary
  drops := (s.tree t).tx.drops
  upDiscards := (s.tree t).upDiscards
  downDiscards := (s.tree t).downDiscards
  lastLit := (s.tree t).rx.lastLit
  garbled := (s.tree t).enrol.garbled
  rangeBad := (s.tree t).enrol.rangeBad
  levelBad := (s.tree t).enrol.levelBad
  tableFull := (s.tree t).enrol.tableFull

/-- A timer as it is reported: one that has run out is no longer running (R26, R36). -/
def shownTimer (timer : Option Nat) : Option Nat := timer.bind (fun n => if n = 0 then none else some n)

/-- The contents of a STATUS for QUERY HOME (R42). -/
def State.homeStatus (s : State) (t : TreeId) (h : HomeIdx) : HomeStatus where
  round := s.round
  tree := t
  home := h
  record := { s.record t h with stateTimer := shownTimer (s.record t h).stateTimer }

end Sys2Proof.Machine
end

