-- ==== Sys2Proof/Machine/Formats.lean ====
section
/-! DEFINITION. Chapter 11: the check, the shelf frame with its marker bits, the codes and the bodies of
the messages, the round header, and the reading of burst headers, replies and shelf frames. -/

namespace Sys2Proof.Machine

/-! ### Bytes and bits (R181) -/

/-- The low `width` bits of a number, most significant first. -/
def bitsOf (width n : Nat) : List Bool := (List.range width).reverse.map (fun k => n.testBit k)

/-- The number that bits spell, most significant first. -/
def natOfBits (bits : List Bool) : Nat := bits.foldl (fun n b => 2 * n + b.toNat) 0

/-- A number as `len` bytes, most significant first. -/
def bytesOf (len n : Nat) : List Byte :=
  (List.range len).reverse.map (fun k => BitVec.ofNat 8 (n / 256 ^ k))

/-- The number that bytes spell, most significant first. -/
def natOfBytes (bytes : List Byte) : Nat := bytes.foldl (fun n b => 256 * n + b.toNat) 0

/-- A signed number in two bytes, two's complement. -/
def bytesOfInt (n : Int) : List Byte := bytesOf 2 (BitVec.ofInt 16 n).toNat

/-- The signed number that two bytes spell. -/
def intOfBytes (bytes : List Byte) : Int := (BitVec.ofNat 16 (natOfBytes bytes)).toInt

/-- The field of `len` bytes at offset `off`. -/
def field (off len : Nat) (bytes : List Byte) : Nat := natOfBytes ((bytes.drop off).take len)

/-- The signed two-byte field at offset `off`. -/
def fieldInt (off : Nat) (bytes : List Byte) : Int := intOfBytes ((bytes.drop off).take 2)

def bitsOfBytes (bytes : List Byte) : List Bool := bytes.flatMap (fun b => bitsOf 8 b.toNat)

/-! ### The check (R182) -/

/-- One covered bit is fed to the check register, generator x^16 + x^12 + x^5 + 1. -/
def checkStep (reg : BitVec 16) (bit : Bool) : BitVec 16 :=
  if reg.msb != bit then (reg <<< 1) ^^^ 0x1021 else reg <<< 1

/-- The check over the covered bits: the register preset to FFFF and fed in order. -/
def checkOf (bits : List Bool) : Nat := (bits.foldl checkStep 0xFFFF).toNat

def checkOfBytes (bytes : List Byte) : Nat := checkOf (bitsOfBytes bytes)

/-! ### Codes (R183) -/

def stateCode : RecordState → Nat
  | .free => 0 | .claiming => 1 | .awaiting => 2 | .active => 3 | .quenched => 4 | .barred => 5
  | .lost => 6

def LightName.code : LightName → Nat
  | .clear => 0 | .search => 1 | .verify => 2 | .foreign => 3 | .off => 4

def ChipState.code : ChipState → Nat
  | .waitingSettings => 0 | .running => 1

def ResetCause.code : ResetCause → Nat
  | .power => 0 | .pin => 1

def DeclineReason.code : DeclineReason → Nat
  | .notFound => 0 | .wrongState => 1 | .capacity => 2 | .badTier => 3 | .badRange => 4 | .locked => 5

def DepartedReason.code : DepartedReason → Nat
  | .dismissed => 0 | .refused => 1 | .lostExpired => 2 | .yielded => 3 | .moved => 4 | .restart => 5
  | .merged => 6

def AlarmKind.code : AlarmKind → Nat
  | .addressClash => 0 | .rogueScore => 1 | .relapseLimit => 2 | .searchStart => 3 | .rogueFound => 4
  | .foreignLight => 5

def AlarmCause.code : AlarmCause → Nat
  | .sending => 0 | .received => 1 | .darkStreak => 2 | .retry => 3 | .ignoringDarken => 4
  | .confirmed => 5 | .listEmpty => 6 | .verifyFailed => 7

def CloneSource.code : CloneSource → Nat
  | .reply => 0 | .lateObjection => 1 | .objected => 2

def MsgClass.code : MsgClass → Nat
  | .urgent => 0 | .normal => 1 | .bulk => 2

/-- The kind byte of a request on homes. -/
def SerialRequest.code : SerialRequest → Nat
  | .admission => 0x11 | .refuse => 0x12 | .release => 0x13 | .dismiss => 0x14

/-- The kind byte of a message (R183). -/
def Msg.code : Msg → Nat
  | .hello _ _ _ _ => 0x01 | .demand _ _ _ => 0x02 | .claim _ _ _ => 0x03 | .object _ _ _ => 0x04
  | .found _ _ _ _ _ => 0x05 | .clone _ => 0x06 | .quota _ => 0x07 | .alarm _ => 0x08
  | .accepted _ _ => 0x20 | .declined _ _ _ => 0x21 | .pending _ _ => 0x22 | .busy _ => 0x23
  | .data _ _ _ _ _ => 0x24 | .stale _ => 0x25 | .status _ _ => 0x26

/-! ### The SETTINGS body (R184) -/

/-- The byte of a flag: 00 for no, 01 for yes.  R184 lets any other value than 00 mean yes, and only the
CALL of a round header has its 01 stated (R186).  DESIGN CHOICE: notes/assumptions/30.md. -/
def boolByte (b : Bool) : Byte := if b then 1 else 0

def settingsBytes (c : Settings) : List Byte :=
  bytesOf 1 c.enabled.toNat ++ bytesOf 3 c.capacity ++ bytesOf 2 c.admitCap
    ++ c.tiers.toList.flatMap (fun r => bytesOf 2 r.cr ++ bytesOf 2 r.pr)
    ++ bytesOf 1 c.unitExp ++ bytesOf 1 c.callEvery ++ bytesOf 1 c.pollEvery ++ bytesOf 1 c.silentLimit
    ++ bytesOfInt c.levelMin ++ bytesOfInt c.levelMax ++ bytesOfInt c.litLevel
    ++ bytesOf 1 c.darkLitMin ++ bytesOf 1 c.darkRounds ++ bytesOf 1 c.verifyRounds
    ++ bytesOf 1 c.scoreLimit ++ bytesOf 1 c.relapseLimit ++ bytesOf 2 c.claimWait
    ++ bytesOf 3 c.admitWait ++ bytesOf 3 c.lostHold ++ bytesOf 3 c.quenchHold ++ bytesOf 3 c.barHold
    ++ bytesOf 3 c.foreignRetry ++ bytesOf 2 c.pickupWait ++ bytesOf 2 c.confirmWait
    ++ bytesOf 1 c.secondManager ++ [boolByte c.aliasOn]

/-- The settings that a SETTINGS body of 76 bytes carries, not yet clamped. -/
def settingsOfBytes (b : List Byte) : Settings where
  enabled := BitVec.ofNat 4 (field 0 1 b)
  capacity := field 1 3 b
  admitCap := field 4 2 b
  tiers := tabulate (fun k => ⟨field (6 + 4 * k.val) 2 b, field (8 + 4 * k.val) 2 b⟩)
  unitExp := field 38 1 b
  callEvery := field 39 1 b
  pollEvery := field 40 1 b
  silentLimit := field 41 1 b
  levelMin := fieldInt 42 b
  levelMax := fieldInt 44 b
  litLevel := fieldInt 46 b
  darkLitMin := field 48 1 b
  darkRounds := field 49 1 b
  verifyRounds := field 50 1 b
  scoreLimit := field 51 1 b
  relapseLimit := field 52 1 b
  claimWait := field 53 2 b
  admitWait := field 55 3 b
  lostHold := field 58 3 b
  quenchHold := field 61 3 b
  barHold := field 64 3 b
  foreignRetry := field 67 3 b
  pickupWait := field 70 2 b
  confirmWait := field 72 2 b
  secondManager := field 74 1 b
  aliasOn := decide (field 75 1 b ≠ 0)

/-! ### Bodies of the messages that the chip posts (R183, R185, R186) -/

def serialBytes (serial : Serial) : List Byte := bytesOf 8 serial.toNat

/-- The QUERY body (R183), as the reference of an answer: every field as it was received, those that the
subject does not use too.  DEDUCED: notes/assumptions/31.md. -/
def queryBytes (subject : Nat) (q : QueryBody) : List Byte :=
  bytesOf 1 subject ++ bytesOf 1 q.form ++ bytesOf 1 q.tree ++ bytesOf 1 q.index ++ serialBytes q.serial

/-- The answered request's kind and its reference, with which every answer opens (R183). -/
def Reference.bytes : Reference → List Byte
  | .settings => [0x10]
  | .serial request held => bytesOf 1 request.code ++ serialBytes held
  | .restart tree => 0x17 :: bytesOf 1 tree
  | .read kind tree first count =>
      0x15 :: (bytesOf 1 kind ++ bytesOf 1 tree ++ bytesOf 1 first ++ bytesOf 1 count)
  | .confirm tag => 0x16 :: bytesOf 1 tag
  | .query subject q => 0x18 :: queryBytes subject q

/-- The number of bits set, weighted from bit 0. -/
def flagBits : List Bool → Nat
  | [] => 0
  | b :: l => b.toNat + 2 * flagBits l

/-- The saturated flags and the five counters, as snapshot and departed records carry them (R186). -/
def Counters.flags (c : Counters) : Nat :=
  flagBits [c.up.sat, c.down.sat, c.activeRounds.sat, c.throttledRounds.sat, c.impairedRounds.sat]

def Counters.bytes (c : Counters) : List Byte :=
  bytesOf 1 c.flags ++ bytesOf 4 c.up.val ++ bytesOf 4 c.down.val ++ bytesOf 4 c.activeRounds.val
    ++ bytesOf 4 c.throttledRounds.val ++ bytesOf 4 c.impairedRounds.val

/-- A snapshot record: type, tree, index, state, serial, generation, interval, holding tag, then flags
and counters (R186). DESIGN CHOICE: notes/assumptions/17.md. -/
def SnapshotRecord.bytes : SnapshotRecord → List Byte
  | .taken serial t h generation interval c =>
      [0] ++ bytesOf 1 t ++ bytesOf 1 h ++ [0] ++ serialBytes serial ++ bytesOf 2 generation
        ++ bytesOf 2 interval ++ [0] ++ c.bytes
  | .heldElsewhere serial t h generation tag =>
      [1] ++ bytesOf 1 t ++ bytesOf 1 h ++ [0] ++ serialBytes serial ++ bytesOf 2 generation
        ++ bytesOf 2 0 ++ bytesOf 1 tag ++ Counters.zero.bytes
  | .empty t h state =>
      [2] ++ bytesOf 1 t ++ bytesOf 1 h ++ bytesOf 1 (stateCode state) ++ serialBytes 0 ++ bytesOf 2 0
        ++ bytesOf 2 0 ++ [0] ++ Counters.zero.bytes

def DepartedRecord.bytes (d : DepartedRecord) : List Byte :=
  bytesOf 1 d.reason.code ++ bytesOf 1 d.tree ++ bytesOf 1 d.home ++ serialBytes d.serial
    ++ bytesOf 2 d.generation ++ bytesOf 2 d.interval ++ d.counters.bytes

def DataRecord.bytes : DataRecord → List Byte
  | .snapshot r => r.bytes
  | .departed d => d.bytes

/-- An absent figure of a STATUS is sent as FFFF (R181, R185). -/
def figureBytes (n : Option Nat) : List Byte := bytesOf 2 (n.getD 0xFFFF)

/-- A manager address of a STATUS, 1F for none (R185). -/
def managerByte (managers : List Nat) (k : Nat) : List Byte := bytesOf 1 (managers.getD k 0x1F)

def BusCounters.bytes (c : BusCounters) : List Byte :=
  [c.sent, c.taken, c.bad, c.refused, c.dropped, c.clashes, c.losses].flatMap (bytesOf 4)

def ChipStatus.bytes (x : ChipStatus) : List Byte :=
  bytesOf 2 x.round ++ bytesOf 1 x.address ++ bytesOf 1 x.chipState.code ++ bytesOf 1 x.cause.code
    ++ bytesOf 1 x.enabled.toNat ++ managerByte x.managers 0 ++ managerByte x.managers 1
    ++ bytesOf 1 x.urgent ++ bytesOf 1 x.normal ++ bytesOf 1 x.bulk ++ [boolByte x.onLine]
    ++ x.counters.bytes ++ bytesOf 2 x.share
    ++ figureBytes (x.own.map (·.1)) ++ figureBytes (x.own.map (·.2))
    ++ bytesOf 1 x.peers ++ bytesOf 1 x.readouts ++ bytesOf 1 x.departed ++ bytesOf 4 x.departedLoss
    ++ bytesOf 4 x.missedPickups

def TreeStatus.bytes (x : TreeStatus) : List Byte :=
  bytesOf 2 x.round ++ bytesOf 1 x.tree ++ [boolByte x.enabled] ++ bytesOf 1 x.light.code
    ++ x.byState.flatMap (bytesOf 1) ++ bytesOf 2 x.crSum ++ bytesOf 1 x.countdown
    ++ bytesOf 1 x.priority ++ bytesOf 1 x.ordinary ++ bytesOf 4 x.drops ++ bytesOf 4 x.upDiscards
    ++ bytesOf 4 x.downDiscards ++ figureBytes x.lastLit ++ bytesOf 4 x.garbled
    ++ bytesOf 4 x.rangeBad ++ bytesOf 4 x.levelBad ++ bytesOf 4 x.tableFull

/-- The presence bits of a record's fields, in the order of R185 from bit 0. -/
def HomeRecord.presence (r : HomeRecord) : Nat :=
  flagBits [r.serial.isSome, r.tier.isSome, r.quota.isSome, r.rtt.isSome, r.eqd.isSome,
    r.enrolLevel.isSome, r.lastLevel.isSome, r.silence.isSome, r.stateTimer.isSome,
    r.contested.isSome, r.backlog.isSome, r.pollCountdown.isSome, r.throttled.isSome,
    r.rogueScore.isSome, r.relapses.isSome, r.testDark.isSome]

def HomeStatus.bytes (x : HomeStatus) : List Byte :=
  let r := x.record
  bytesOf 2 x.round ++ bytesOf 1 x.tree ++ bytesOf 1 x.home ++ bytesOf 3 r.presence
    ++ bytesOf 1 (stateCode r.state) ++ bytesOf 2 r.generation ++ serialBytes (r.serial.getD 0)
    ++ bytesOf 1 ((r.tier.map (·.val)).getD 0) ++ bytesOf 4 (r.quota.getD 0) ++ bytesOf 2 (r.rtt.getD 0)
    ++ bytesOf 2 (r.eqd.getD 0) ++ bytesOfInt (r.enrolLevel.getD 0) ++ bytesOfInt (r.lastLevel.getD 0)
    ++ bytesOf 1 (r.silence.getD 0) ++ bytesOf 3 (r.stateTimer.getD 0) ++ bytesOf 1 (r.contested.getD 0)
    ++ bytesOf 2 (r.backlog.getD 0) ++ bytesOf 1 (r.pollCountdown.getD 0)
    ++ [boolByte (r.throttled.getD false)] ++ bytesOf 1 (r.rogueScore.getD 0)
    ++ bytesOf 1 (r.relapses.getD 0) ++ [boolByte (r.testDark.getD false)]

def StatusBody.bytes : StatusBody → List Byte
  | .chip x => x.bytes
  | .tree x => x.bytes
  | .home x => x.bytes

def Clone.bytes (c : Clone) : List Byte :=
  serialBytes c.serial ++ bytesOf 1 c.tree ++ bytesOf 1 c.home ++ bytesOf 1 (stateCode c.state)
    ++ bytesOf 1 c.contested ++ bytesOf 1 c.source.code ++ bytesOf 1 c.replyTree ++ bytesOf 2 c.rtt
    ++ bytesOfInt c.level ++ bytesOf 1 c.peer

def QuotaNotice.bytes (q : QuotaNotice) : List Byte :=
  serialBytes q.serial ++ bytesOf 1 q.tree ++ bytesOf 1 q.home ++ bytesOf 2 q.generation
    ++ bytesOf 2 q.interval ++ bytesOf 4 q.quota ++ bytesOf 5 q.total ++ bytesOf 2 q.round

def Alarm.bytes (a : Alarm) : List Byte :=
  bytesOf 1 a.kind.code ++ bytesOf 1 a.tree ++ bytesOf 2 a.round
    ++ bytesOf 1 ((a.cause.map AlarmCause.code).getD 0) ++ bytesOf 1 a.home ++ serialBytes a.serial
    ++ bytesOf 2 a.generation ++ bytesOf 1 a.relapses ++ [boolByte a.holdRuns]
    ++ bytesOf 1 ((a.state.map stateCode).getD 0) ++ bytesOf 2 a.figure

/-- Settings carried in an answer, if any. -/
def inForceBytes (c : Option Settings) : List Byte := (c.map settingsBytes).getD []

/-- The body of a message (R183). -/
def Msg.body : Msg → List Byte
  | .hello address cause chipState round =>
      bytesOf 1 address ++ bytesOf 1 cause.code ++ bytesOf 1 chipState.code ++ bytesOf 2 round
  | .demand c e n => bytesOf 2 c ++ bytesOf 2 e ++ bytesOf 2 n
  | .claim serial t h => serialBytes serial ++ bytesOf 1 t ++ bytesOf 1 h
  | .object serial t h => serialBytes serial ++ bytesOf 1 t ++ bytesOf 1 h
  | .found serial t h rtt level =>
      serialBytes serial ++ bytesOf 1 t ++ bytesOf 1 h ++ bytesOf 2 rtt ++ bytesOfInt level
  | .clone c => c.bytes
  | .quota q => q.bytes
  | .alarm a => a.bytes
  | .accepted ref c => ref.bytes ++ inForceBytes c
  | .declined ref reason c => ref.bytes ++ bytesOf 1 reason.code ++ inForceBytes c
  | .pending ref tag => ref.bytes ++ bytesOf 1 tag
  | .busy ref => ref.bytes
  | .data ref tag first count records =>
      ref.bytes ++ bytesOf 1 tag ++ bytesOf 1 first ++ bytesOf 1 count ++ bytesOf 1 records.length
        ++ records.flatMap DataRecord.bytes
  | .stale ref => ref.bytes
  | .status ref x => ref.bytes ++ x.bytes

/-! ### The shelf frame (R45) -/

/-- The covered bits of a frame: class to the last body bit. -/
def frameFields (cls sender dest kind : Nat) (body : List Byte) : List Bool :=
  bitsOf 2 cls ++ bitsOf 5 sender ++ bitsOf 5 dest ++ bitsOf 8 kind ++ bitsOf 8 body.length
    ++ bitsOfBytes body

/-- A dominant marker bit after every eighth bit; `k` counts the bits since the last marker. -/
def withMarkers : Nat → List Bool → List Bool
  | _, [] => []
  | k, b :: l => if k = 7 then b :: false :: withMarkers 0 l else b :: withMarkers (k + 1) l

/-- A frame's bits from the first class bit on: the fields, the check, and the marker bits. -/
def frameBits (cls sender dest kind : Nat) (body : List Byte) : List Bool :=
  let fields := frameFields cls sender dest kind body
  withMarkers 0 (fields ++ bitsOf 16 (checkOf fields))

/-- The bits that the chip puts on the line for an entry: the dominant start bit, then the frame. -/
def TxEntry.lineBits (e : TxEntry) (address : Nat) : List Bool :=
  false :: frameBits e.cls.code address e.dest e.msg.code e.msg.body

/-- `n` frame bits are read from the line with their marker bits removed; `none` when the bits run out
or a marker bit is recessive.  `k` counts the bits since the last marker (R45, R49). -/
def readBits : Nat → Nat → List Bool → Option (List Bool × Nat × List Bool)
  | 0, k, line => some ([], k, line)
  | _ + 1, _, [] => none
  | n + 1, k, b :: line =>
    if k = 7 then
      match line with
      | false :: line' => (readBits n 0 line').map (fun x => (b :: x.1, x.2))
      | _ => none
    else (readBits n (k + 1) line).map (fun x => (b :: x.1, x.2))

/-- Bits cut into bytes. -/
def bytesOfBits : Nat → List Bool → List Byte
  | 0, _ => []
  | n + 1, bits => BitVec.ofNat 8 (natOfBits (bits.take 8)) :: bytesOfBits n (bits.drop 8)

/-- A sound frame as read from the line (R49). -/
structure ShelfFrame where
  cls : Nat
  sender : Nat
  dest : Nat
  kind : Nat
  body : List Byte
  deriving DecidableEq, Repr

/-- A frame read from the line: `none` for a bad frame (R49). -/
def readFrame (line : List Bool) : Option ShelfFrame :=
  match readBits 28 0 line with
  | none => none
  | some (head, k, line') =>
    let length := natOfBits (head.drop 20)
    if Config.bodyMax < length then none
    else match readBits (8 * length + 16) k line' with
      | none => none
      | some (rest, _, _) =>
        if checkOf (head ++ rest.take (8 * length)) = natOfBits (rest.drop (8 * length)) then
          some { cls := natOfBits (head.take 2)
                 sender := natOfBits ((head.drop 2).take 5)
                 dest := natOfBits ((head.drop 7).take 5)
                 kind := natOfBits ((head.drop 12).take 8)
                 body := bytesOfBits length rest }
        else none

/-- The body length that a received kind requires (R183, R187). -/
def requiredLength (kind : Nat) : Option Nat :=
  match kind with
  | 0x02 => some 6
  | 0x03 | 0x04 => some 10
  | 0x10 => some 76
  | 0x11 => some 13
  | 0x12 | 0x13 | 0x14 => some 8
  | 0x15 => some 4
  | 0x16 => some 1
  | 0x17 => some 1
  | 0x18 => some 12
  | _ => none

/-- The QUERY body as received, after its subject. -/
def queryOfBytes (b : List Byte) : QueryBody where
  form := field 1 1 b
  tree := field 2 1 b
  index := field 3 1 b
  serial := BitVec.ofNat 64 (field 4 8 b)

/-- The command that a frame with a body of the required length hands to its owner (R54, R60, R183).
A QUERY with an unknown subject hands nothing on. -/
def ShelfFrame.command (f : ShelfFrame) : Option Instr :=
  let b := f.body
  let serial := BitVec.ofNat 64 (field 0 8 b)
  match f.kind with
  | 0x02 => some (.demandReceived f.sender (field 0 2 b) (field 2 2 b) (field 4 2 b))
  | 0x03 => some (.claimReceived f.sender serial (field 8 1 b) (field 9 1 b))
  | 0x04 => some (.objectReceived f.sender serial (field 8 1 b) (field 9 1 b))
  | 0x10 => some (.settings f.sender (settingsOfBytes b))
  | 0x11 => some (.admission f.sender serial (field 8 1 b) (field 9 4 b))
  | 0x12 => some (.refuse f.sender serial)
  | 0x13 => some (.release f.sender serial)
  | 0x14 => some (.dismiss f.sender serial)
  | 0x15 => some (.read f.sender (field 0 1 b) (field 1 1 b) (field 2 1 b) (field 3 1 b))
  | 0x16 => some (.confirm f.sender (field 0 1 b))
  | 0x17 => some (.restart f.sender (field 0 1 b))
  | 0x18 =>
    match field 0 1 b with
    | 0 => some (.queryChip f.sender (queryOfBytes b))
    | 1 => some (.queryTree f.sender (queryOfBytes b))
    | 2 => some (.queryHome f.sender (queryOfBytes b))
    | _ => none
  | _ => none

/-! ### Tree layouts (R186) -/

def ControlWord.bytes : ControlWord → List Byte
  | .setDelay h serial eqd => [0] ++ bytesOf 1 h ++ serialBytes serial ++ bytesOf 2 eqd
  | .darken h => [1] ++ bytesOf 1 h
  | .light h => [2] ++ bytesOf 1 h
  | .testDark _ homes =>
      3 :: (List.range 16).map (fun k =>
        BitVec.ofNat 8 (flagBits ((List.range 8).map (fun j =>
          homes.any (fun h => decide (h.val = 8 * k + j))))))
  | .dismiss h => [4] ++ bytesOf 1 h
  | .dismissAll => [5]

def Grant.bytes (g : Grant) : List Byte :=
  bytesOf 1 g.home ++ bytesOf 2 g.start ++ bytesOf 2 g.payload

/-- A round header's bytes, its check with them (R5, R182, R186). -/
def headerBytes (round : Nat) (plan : Plan) (words : List ControlWord) : List Byte :=
  let covered := bytesOf 2 round ++ bytesOf 1 plan.grants.length ++ [boolByte plan.call]
    ++ bytesOf 1 words.length ++ plan.grants.flatMap Grant.bytes ++ words.flatMap ControlWord.bytes
  covered ++ bytesOf 2 (checkOfBytes covered)

/-- A burst header whose check is correct (R14, R182, R186). -/
structure BurstHeader where
  index : Nat
  backlog : Nat
  bytesUsed : Nat
  deriving DecidableEq, Repr

def readBurstHeader (b : List Byte) : Option BurstHeader :=
  if checkOfBytes (b.take 6) = field 6 2 b then
    some { index := field 0 1 b, backlog := field 1 2 b, bytesUsed := field 3 3 b }
  else none

/-- The serial and the random delay of a discovery reply whose check is correct (R21, R182, R186). -/
def readReply (b : List Byte) : Option (Serial × Nat) :=
  if checkOfBytes (b.take 9) = field 9 2 b then some (BitVec.ofNat 64 (field 0 8 b), field 8 1 b)
  else none

end Sys2Proof.Machine
end

