-- ==== Sys2Proof/Machine/Operands.lean ====
section
/-! DEFINITION. What the Tree Receiver makes of light: the classes of a round's blocks, the attribution of
burst headers, the outcome of a grant, the lit count of a window, and the reading of discovery
replies. -/

namespace Sys2Proof.Machine

/-! ### Blocks of a round (R2) -/

/-- The first block after the last block of a grant's burst (R2). -/
def Grant.after (g : Grant) : Nat := g.start + 2 + g.payload

/-- The step of the start of a grant's header block: its planned header position (R14). -/
def Grant.headerStep (g : Grant) : Int := Config.blockSteps * (g.start + 1)

/-- Block `b` is a guard, header, payload or after-burst block of some grant (R2). -/
def Plan.inBurst (p : Plan) (b : Nat) : Bool :=
  p.grants.any (fun g => decide (g.start ≤ b) && decide (b ≤ g.after))

/-- Block `b` lies in the plan's discovery window (R2). -/
def Plan.inWindow (p : Plan) (b : Nat) : Bool :=
  p.call && decide (Config.windowStart ≤ b) && decide (b < Config.windowStart + Config.windowBlocks)

/-- Block `b` of the round is dark under the plan (R2). -/
def Plan.dark (p : Plan) (b : Nat) : Bool :=
  decide (b < Config.tailStart) && !p.inWindow b && !p.inBurst b

/-- A block that holds a step of the span, one block long, that begins at step `start` (R16). -/
def inSpan (b : Nat) (start : Int) : Bool :=
  decide (start < Config.blockSteps * (b + 1)) && decide ((Config.blockSteps * b : Int) < start + Config.blockSteps)

/-- Block `b` of the window can add to the lit count: it is dark, and no span of an overrun test lies in
it (R16, R19). DEDUCED: notes/assumptions/9.md. -/
def Window.counts (w : Window) (b : Nat) : Bool :=
  w.plan.dark b && !w.testSpans.any (inSpan b)

/-- The blocks, numbered from `b`, whose level is at or above LIT_LEVEL and that count (R19). -/
def litFrom (counts : Nat → Bool) (litLevel : Int) : Nat → List Int → Nat
  | _, [] => 0
  | b, level :: rest =>
    (if counts b && decide (litLevel ≤ level) then 1 else 0) + litFrom counts litLevel (b + 1) rest

/-- The lit count of a window whose blocks were received at the levels given (R19).
DESIGN CHOICE: notes/assumptions/8.md. -/
def Window.litCount (w : Window) (litLevel : Int) (levels : List Int) : Nat :=
  w.lit + litFrom w.counts litLevel 0 levels

/-! ### Burst headers (R14, R15) -/

/-- How far a position lies from a grant's planned header position, in steps. -/
def Grant.distance (g : Grant) (pos : Int) : Nat := (pos - g.headerStep).natAbs

/-- The grant nearest to a position, the earlier of two equally near (R14). -/
def nearestGrant (pos : Int) : List Grant → Option Grant
  | [] => none
  | g :: rest =>
    match nearestGrant pos rest with
    | none => some g
    | some g' => if g.distance pos ≤ g'.distance pos then some g else some g'

/-- A found header is good for grant `g` of the plan: its check is correct, it is attributed to `g`, and
it claims no more bytes than `g` holds (R14). -/
def Plan.goodFor (p : Plan) (g : Grant) (f : FoundHeader) : Option (FoundHeader × BurstHeader) :=
  match readBurstHeader f.bytes with
  | none => none
  | some b =>
    if nearestGrant f.pos p.grants = some g ∧ g.distance f.pos ≤ Config.attributionSteps
        ∧ b.bytesUsed ≤ 32 * g.payload then some (f, b)
    else none

/-- Of the headers attributed to a grant, the one nearest its planned position; of two at equal distance
the later is set aside (R14). -/
def nearestHeader (g : Grant) : List (FoundHeader × BurstHeader) → Option (FoundHeader × BurstHeader)
  | [] => none
  | f :: rest =>
    match nearestHeader g rest with
    | none => some f
    | some f' =>
      if g.distance f.1.pos < g.distance f'.1.pos
          ∨ (g.distance f.1.pos = g.distance f'.1.pos ∧ f.1.pos ≤ f'.1.pos) then some f else some f'

/-- The header that a grant takes, if any (R14). -/
def Plan.headerTaken (p : Plan) (g : Grant) (found : List FoundHeader) :
    Option (FoundHeader × BurstHeader) :=
  nearestHeader g (found.filterMap (p.goodFor g))

/-- The timing classes of a burst whose header names the granted index (R15). -/
inductive Timing
  | arrived | drifted | misplaced
  deriving DecidableEq, Repr

/-- The class of an offset in steps (R15). -/
def timingOf (offset : Int) : Timing :=
  if offset.natAbs ≤ 4 then .arrived else if offset.natAbs ≤ 16 then .drifted else .misplaced

/-- The outcome of a grant with the figures that its arrival record carries (R15, R17). -/
inductive BurstOutcome
  /-- header-good: ARRIVED, DRIFTED or MISPLACED, perhaps with OVERRUN -/
  | good (timing : Timing) (overrun : Bool) (offset : Int) (level : Int) (backlog bytesUsed : Nat)
  | wrongHome (named : Nat) (level : Int)
  | garbled (level : Int)
  | silent
  deriving DecidableEq, Repr

/-- An arrival record (R17). -/
structure ArrivalRecord where
  round : Nat
  tree : TreeId
  home : HomeIdx
  generation : Nat
  outcome : BurstOutcome
  deriving DecidableEq, Repr

/-- The step of a burst's end: the start of the header taken plus 1 + p blocks (R16). -/
def burstEnd (g : Grant) (pos : Int) : Int := pos + Config.blockSteps * (1 + g.payload)

/-- An overrun test is made unless the round is a discovery round and the planned after-burst block
would lie at block 1960 or later (R16). -/
def Plan.testsOverrun (p : Plan) (g : Grant) : Bool :=
  !(p.call && decide (Config.windowStart ≤ g.after))

/-- The outcome of grant `g` (R15, R16), with the span of its overrun test where one is made. -/
def settleGrant (litLevel : Int) (p : Plan) (g : Grant) (found : List FoundHeader) (light : BurstLight) :
    BurstOutcome × Option Int :=
  match p.headerTaken g found with
  | none =>
    if litLevel ≤ light.headerBlockLevel then (.garbled (clampLevel light.headerBlockLevel), none)
    else (.silent, none)
  | some (f, b) =>
    if b.index = g.home.val then
      let offset := f.pos - g.headerStep
      let tested := p.testsOverrun g
      (.good (timingOf offset) (tested && decide (litLevel ≤ light.afterLevel)) offset
          (clampLevel f.level) b.backlog b.bytesUsed,
        if tested then some (burstEnd g f.pos) else none)
    else (.wrongHome b.index (clampLevel f.level), none)

/-- The received level that an outcome carries, if any (R17). -/
def BurstOutcome.level? : BurstOutcome → Option Int
  | .good _ _ _ level _ _ => some level
  | .wrongHome _ level => some level
  | .garbled level => some level
  | .silent => none

/-- The outcome is header-good (R17). -/
def BurstOutcome.isGood : BurstOutcome → Bool
  | .good _ _ _ _ _ _ => true
  | .wrongHome _ _ | .garbled _ | .silent => false

/-! ### Discovery replies (R21) -/

/-- A reply record, with the round of its window and its tree (R21). -/
inductive ReplyRecord
  | valid (round : Nat) (tree : TreeId) (serial : Serial) (delay : Nat) (offset : Nat) (level : Int)
  | garbled (round : Nat) (tree : TreeId)
  deriving DecidableEq, Repr

/-- The number of steps before the first whose level satisfies `p`; all of them where none does. -/
def stepsBefore (p : Int → Bool) : List Int → Nat
  | [] => 0
  | level :: rest => if p level then 0 else stepsBefore p rest + 1

/-- The delineator of tree `t` reads on from where it stands: past light left from a garbled reply, then
to the first step at or above LIT_LEVEL, where it takes a reply.  It answers where it stands afterwards,
and the reply record if a reply was found before the end of the window (R21).  Steps are counted from the
start of block 1960.  That the levels come with the command is a DESIGN CHOICE
(notes/assumptions/8.md); that the dark step at which it goes on after a GARBLED reply may lie within the
reply's own 32 steps is DEDUCED (notes/assumptions/26.md). -/
def readOn (litLevel : Int) (t : TreeId) (w : Window) (light : ReplyLight) :
    Window × Option ReplyRecord :=
  let garbled := ReplyRecord.garbled w.plan.round t
  let lit := fun level => decide (litLevel ≤ level)
  let dark := fun level => !decide (litLevel ≤ level)
  let skipped := if w.replyBlind then stepsBefore dark light.levels else 0
  let levels := light.levels.drop skipped
  let start := w.replyStep + skipped + stepsBefore lit levels
  let rest := levels.drop (stepsBefore lit levels)
  match rest with
  | [] => ({ w with replyStep := start, replyBlind := w.replyBlind && decide (levels = []) }, none)
  | _ :: _ =>
    if Config.blockSteps * Config.windowBlocks ≤ start then
      ({ w with replyStep := start, replyBlind := false }, none)
    else if start + Config.replySteps ≤ Config.blockSteps * Config.windowBlocks then
      match readReply light.bytes with
      | some (serial, delay) =>
        ({ w with replyStep := start + Config.replySteps, replyBlind := false },
          some (.valid w.plan.round t serial delay start (clampLevel light.replyLevel)))
      | none =>
        ({ w with replyStep := start + stepsBefore dark rest,
                  replyBlind := rest.all lit }, some garbled)
    else
      ({ w with replyStep := start + stepsBefore dark rest, replyBlind := rest.all lit },
        some garbled)

end Sys2Proof.Machine
end

