-- ==== Sys2Proof/Machine/Enrolment.lean ====
section
/-! DEFINITION. Enrolment (chapter 4): the meanings of DISCOVERY_REPLY, CLAIM_RECEIVED, OBJECT_RECEIVED,
CLAIM_SENT_REPORT, CLAIM_DROPPED_REPORT, CLAIM_WAIT_EXPIRY, ADMIT, ADMIT_WAIT_EXPIRY, BAR_HOLD_EXPIRY and
TRIM_HOLD_END. -/

namespace Sys2Proof.Machine

/-! ### Replies (R66 to R72) -/

def State.modFigures (s : State) (t : TreeId) (f : EnrolFigures → EnrolFigures) : State :=
  s.modTree t (fun tr => { tr with enrol := f tr.enrol })

/-- The round trip that a reply's offset and random delay give (R66). -/
def roundTrip (offset delay : Nat) : Int := (offset : Int) - Config.blockSteps * delay

/-- The record takes the distance and the level of an accepted reply (R30, R68, R69, R71). -/
def HomeRecord.ranged (r : HomeRecord) (rtt : Nat) (level : Int) : HomeRecord :=
  { r with rtt := some rtt, eqd := some (Config.referenceTrip - rtt), enrolLevel := some level,
           lastLevel := some level }

/-- The Controller posts a CLONE notice about a record (R70, R76, R77). -/
def State.postClone (s : State) (t : TreeId) (h : HomeIdx) (source : CloneSource) (replyTree rtt : Nat)
    (level : Int) (peer : Nat) : State :=
  let r := s.record t h
  s.post .enrolment Config.allStations
    (.clone { serial := r.serial.getD 0, tree := t, home := h, state := r.state,
              contested := r.contested.getD 0, source := source, replyTree := replyTree, rtt := rtt,
              level := level, peer := peer })

/-- A SET-DELAY with the record's index, serial and delay is queued (R68, R69, R71). -/
def State.queueDelay (s : State) (t : TreeId) (h : HomeIdx) : State :=
  let r := s.record t h
  s.queueWord t (.setDelay h (r.serial.getD 0) (r.eqd.getD 0))

/-- The record of index `h` is allocated to a serial (R29). -/
def State.allocate (s : State) (t : TreeId) (h : HomeIdx) (serial : Serial) (rtt : Nat) (level : Int) :
    State :=
  ((s.modRecord t h (fun r =>
      { r.ranged rtt level with
          serial := some serial, contested := some 0,
          generation := (r.generation + 1) % Config.generationWrap })).indexSerial serial t h).changeState
    t h .claiming none .enrol

/-- The new enrolment of a home at the record allocated to it (R69). -/
def State.enrolAt (s : State) (t : TreeId) (h : HomeIdx) (serial : Serial) (rtt : Nat) (level : Int) :
    State :=
  let s := (s.allocate t h serial rtt level).queueDelay t h
  s.postClaim ⟨t, h, (s.record t h).generation⟩ serial

/-- The tree's TABLE_FULL counter gains 1 (R69, R72). -/
def State.countTableFull (s : State) (t : TreeId) : State :=
  s.modFigures t (fun e => { e with tableFull := bump e.tableFull })

/-- A serial held nowhere: the lowest FREE record is allocated, or TABLE_FULL counts (R69). -/
def State.enrolNew (s : State) (t : TreeId) (serial : Serial) (rtt : Nat) (level : Int) : State :=
  match s.lowestFree t with
  | some h => s.enrolAt t h serial rtt level
  | none => s.countTableFull t

/-- A clone: contested gains 1 and a CLONE notice is posted (R70). -/
def State.clone (s : State) (replyTree : TreeId) (t : TreeId) (h : HomeIdx) (rtt : Nat) (level : Int) :
    State :=
  (s.contest t h).postClone t h .reply replyTree rtt level 0

/-- The delay of a CLAIMING or AWAITING record is renewed (R68). -/
def State.renewDelay (s : State) (t : TreeId) (h : HomeIdx) (rtt : Nat) (level : Int) : State :=
  (s.modRecord t h (fun r => r.ranged rtt level)).queueDelay t h

/-- A LOST home of the tree is re-enrolled (R71). -/
def State.reenrol (s : State) (t : TreeId) (h : HomeIdx) (rtt : Nat) (level : Int) : State :=
  ((s.modRecord t h (fun r => r.ranged rtt level)).changeState t h .active none .reenrol).queueDelay t h

/-- A LOST home of tree `u` moves to tree `t` (R72). -/
def State.moveHome (s : State) (t u : TreeId) (h : HomeIdx) (serial : Serial) (rtt : Nat) (level : Int) :
    State :=
  match s.lowestFree t with
  | some _ => (s.departWithDismiss u h .moved .moved).enrolNew t serial rtt level
  | none => s.countTableFull t

/-- An accepted reply on tree `t`, by where the serial index finds its serial (R68). -/
def State.acceptReply (s : State) (t : TreeId) (serial : Serial) (rtt : Nat) (level : Int) : State :=
  match s.lookup serial with
  | none => s.enrolNew t serial rtt level
  | some (u, h) =>
    match (s.record u h).state, decide (u = t) with
    | .lost, true => s.reenrol t h rtt level
    | .lost, false => s.moveHome t u h serial rtt level
    | .claiming, true | .awaiting, true => s.renewDelay t h rtt level
    | .claiming, false | .awaiting, false | .active, _ | .quenched, _ => s.clone t u h rtt level
    | .barred, true => s.queueWord t (.darken h)
    | .barred, false | .free, _ => s

/-- The Controller takes a reply record (R66, R67). -/
def State.takeReply (s : State) (reply : ReplyRecord) : State :=
  match reply with
  | .garbled _ t => s.modFigures t (fun e => { e with garbled := bump e.garbled })
  | .valid _ t serial delay offset level =>
    let rtt := roundTrip offset delay
    if rtt < 0 ∨ Config.referenceTrip < rtt then
      s.modFigures t (fun e => { e with rangeBad := bump e.rangeBad })
    else if level < s.cfg.levelMin ∨ s.cfg.levelMax < level then
      s.modFigures t (fun e => { e with levelBad := bump e.levelBad })
    else s.acceptReply t serial rtt.toNat level

/-- DISCOVERY_REPLY: there is a reply event only in an open window whose plan carries the CALL entry
(R21, R66). -/
def execDiscoveryReply (t : TreeId) (light : ReplyLight) (s : State) : Result :=
  s.whileUp
    (match (s.tree t).rx.window with
     | none => s
     | some w =>
       if w.plan.call then
         let read := readOn s.cfg.litLevel t w light
         let s1 := s.modTree t (fun tr => { tr with rx := { tr.rx with window := some read.1 } })
         match read.2 with
         | some reply => s1.takeReply reply
         | none => s1
       else s)

/-! ### Claims and objections (R73 to R77) -/

/-- CLAIM_SENT_REPORT (R73). -/
def execClaimSentReport (t : TreeId) (h : HomeIdx) (generation : Nat) (s : State) : Result :=
  s.whileUp
    (let s1 := s.take (.claimSentReport t h generation)
     if s.names t h generation && decide ((s.record t h).state = .claiming) then
       s1.modRecord t h (fun r => { r with stateTimer := some (startTimer s.cfg.claimWait) })
     else s1)

/-- CLAIM_DROPPED_REPORT (R73). -/
def execClaimDroppedReport (t : TreeId) (h : HomeIdx) (generation : Nat) (s : State) : Result :=
  s.whileUp
    (let s1 := s.take (.claimDroppedReport t h generation)
     if s.names t h generation && decide ((s.record t h).state = .claiming) then
       s1.freeWithDismiss t h .claimDropped
     else s1)

/-- A FOUND notice is posted (R74). -/
def State.postFound (s : State) (t : TreeId) (h : HomeIdx) : State :=
  let r := s.record t h
  s.post .enrolment Config.allStations
    (.found (r.serial.getD 0) t h (r.rtt.getD 0) (r.enrolLevel.getD 0))

/-- CLAIM_WAIT_EXPIRY (R74). -/
def execClaimWaitExpiry (t : TreeId) (h : HomeIdx) (s : State) : Result :=
  s.whileUp
    (if s.expired t h .claiming then
      (s.changeState t h .awaiting (some (startTimer s.cfg.admitWait)) .claimDone).postFound t h
    else s)

/-- A CLAIMING record is barred by a peer's message (R77). DESIGN CHOICE: notes/assumptions/17.md. -/
def State.barByPeer (s : State) (t : TreeId) (h : HomeIdx) (peer : Nat) : State :=
  ((s.changeState t h .barred (some (startTimer s.cfg.barHold)) .barredByPeer).queueWord
    t (.darken h)).postClone t h .objected 0 0 0 peer

/-- An OBJECT is posted to the sender of a CLAIM (R75). -/
def State.objectTo (s : State) (peer : Nat) (serial : Serial) (tree index : Nat) : State :=
  s.post .enrolment peer (.object serial tree index)

/-- The record that holds a claimed serial answers the CLAIM (R75). -/
def State.answerClaim (s : State) (peer : Nat) (serial : Serial) (tree index : Nat) (t : TreeId)
    (h : HomeIdx) : State :=
  match (s.record t h).state with
  | .active | .quenched | .awaiting => (s.objectTo peer serial tree index).contest t h
  | .claiming => (s.objectTo peer serial tree index).barByPeer t h peer
  | .lost => s.departWithDismiss t h .yielded .yielded
  | .barred => s.objectTo peer serial tree index
  | .free => s

/-- CLAIM_RECEIVED (R75). -/
def execClaimReceived (peer : Nat) (serial : Serial) (tree index : Nat) (s : State) : Result :=
  s.whileUp
    (let s1 := s.take (.claimReceived peer serial tree index)
     if s.hearsPeer peer then
       match s1.lookup serial with
       | some (t, h) => s1.answerClaim peer serial tree index t h
       | none => s1
     else s1)

/-- The record that holds the serial of an OBJECT takes it (R76). -/
def State.answerObject (s : State) (peer : Nat) (t : TreeId) (h : HomeIdx) : State :=
  match (s.record t h).state with
  | .claiming => s.barByPeer t h peer
  | .awaiting | .active => (s.contest t h).postClone t h .lateObjection 0 0 0 peer
  | .free | .quenched | .barred | .lost => s

/-- OBJECT_RECEIVED (R76). -/
def execObjectReceived (peer : Nat) (serial : Serial) (tree index : Nat) (s : State) : Result :=
  s.whileUp
    (let s1 := s.take (.objectReceived peer serial tree index)
     if s.hearsPeer peer then
       match s1.lookup serial with
       | some (t, h) => s1.answerObject peer t h
       | none => s1
     else s1)

/-! ### Admission (R78 to R82) -/

/-- An ADMIT is answered ACCEPTED (R78). -/
def State.acceptAdmit (s : State) (sender : Nat) (serial : Serial) : State :=
  s.post .enrolment sender (.accepted (.serial .admission serial) none)

/-- An ADMIT is answered DECLINED (R78). -/
def State.declineAdmit (s : State) (sender : Nat) (serial : Serial) (reason : DeclineReason) : State :=
  s.post .enrolment sender (.declined (.serial .admission serial) reason none)

/-- An AWAITING home is admitted (R28, R79). -/
def State.admitHome (s : State) (t : TreeId) (h : HomeIdx) (tier : Fin 8) (quota : Nat) : State :=
  (s.modRecord t h (fun r =>
    { r with tier := some tier, quota := some quota, throttled := some false,
             relapses := some 0 })).changeState t h .active none .admission

/-- The tier and the quota of an admitted home change, and the Meter takes the quota notice (R80,
R153). -/
def State.changeTier (s : State) (t : TreeId) (h : HomeIdx) (tier : Fin 8) (quota : Nat) : State :=
  (s.modRecord t h (fun r => { r with tier := some tier, quota := some quota })).reviewQuota t h

/-- The tests of an ADMIT on the record it finds (R78 to R80). -/
def State.admitAt (s : State) (sender : Nat) (serial : Serial) (tier : Fin 8) (quota : Nat) (t : TreeId)
    (h : HomeIdx) : State :=
  match (s.record t h).state with
  | .awaiting =>
    if s.crSum t + (s.rates tier).cr ≤ s.cfg.admitCap then
      (s.admitHome t h tier quota).acceptAdmit sender serial
    else s.declineAdmit sender serial .capacity
  | .active | .quenched | .lost =>
    if s.crSum t - (s.ratesOf (s.record t h)).cr + (s.rates tier).cr ≤ s.cfg.admitCap then
      (s.changeTier t h tier quota).acceptAdmit sender serial
    else s.declineAdmit sender serial .capacity
  | .free | .claiming | .barred => s.declineAdmit sender serial .wrongState

/-- ADMIT (R78). -/
def execAdmit (sender : Nat) (serial : Serial) (tier quota : Nat) (s : State) : Result :=
  s.whileUp
    (let s1 := s.take (.admission sender serial tier quota)
     if s.obeys sender then
       if ht : tier < 8 then
         match s1.lookup serial with
         | none => s1.declineAdmit sender serial .notFound
         | some (t, h) => s1.admitAt sender serial ⟨tier, ht⟩ quota t h
       else s1.declineAdmit sender serial .badTier
     else s1)

/-- ADMIT_WAIT_EXPIRY (R81). -/
def execAdmitWaitExpiry (t : TreeId) (h : HomeIdx) (s : State) : Result :=
  s.whileUp (if s.expired t h .awaiting then s.freeWithDismiss t h .admitExpired else s)

/-- BAR_HOLD_EXPIRY (R82). -/
def execBarHoldExpiry (t : TreeId) (h : HomeIdx) (s : State) : Result :=
  s.whileUp (if s.expired t h .barred then s.freeWithDismiss t h .barExpired else s)

/-- TRIM_HOLD_END: a trim hold that has counted down to 0 comes to rest (R84). -/
def execTrimHoldEnd (t : TreeId) (h : HomeIdx) (s : State) : Result :=
  s.whileUp
    (if (s.home t h).trimHold = some 0 then s.modHome t h (fun x => { x with trimHold := none })
    else s)

end Sys2Proof.Machine
end

