-- ==== Sys2Proof/Machine/Meter.lean ====
section
/-! DEFINITION. Usage metering and the billing readout (chapters 8 and 9): counting, the round counts, the
cut, commit and merge-back, and the meanings of READ, CONFIRM, PICKUP_WAIT_EXPIRY and
CONFIRM_WAIT_EXPIRY. -/

namespace Sys2Proof.Machine

/-! ### Counting bytes (R146, R147) -/

/-- Bytes of a unit (00_scope.md section 4). -/
def State.unitBytes (s : State) : Nat := 2 ^ s.cfg.unitExp

/-- Upstream bytes are counted (R146). -/
def UsageEntry.countUp (u : UsageEntry) (unit bytes : Nat) : UsageEntry :=
  { u with residueUp := (u.residueUp + bytes) % unit,
           counters := { u.counters with up := u.counters.up.add ((u.residueUp + bytes) / unit) } }

/-- Downstream bytes are counted (R147). -/
def UsageEntry.countDown (u : UsageEntry) (unit bytes : Nat) : UsageEntry :=
  { u with residueDown := (u.residueDown + bytes) % unit,
           counters := { u.counters with down := u.counters.down.add ((u.residueDown + bytes) / unit) } }

/-- The usage entry of a home changes. -/
def State.modUsage (s : State) (t : TreeId) (h : HomeIdx) (f : UsageEntry → UsageEntry) : State :=
  s.modHome t h (fun x => { x with usage := x.usage.map f })

/-- The Meter counts a home's upstream bytes, and evaluates the quota if a unit was added
(R146, R151). -/
def State.countUp (s : State) (t : TreeId) (h : HomeIdx) (bytes : Nat) : State :=
  match (s.home t h).usage with
  | none => s
  | some u =>
    let s1 := s.modUsage t h (fun u => u.countUp s.unitBytes bytes)
    if 1 ≤ (u.residueUp + bytes) / s.unitBytes then s1.evaluateQuota t h else s1

/-- The Meter counts a home's downstream bytes, and evaluates the quota if a unit was added
(R147, R151). -/
def State.countDown (s : State) (t : TreeId) (h : HomeIdx) (bytes : Nat) : State :=
  match (s.home t h).usage with
  | none => s
  | some u =>
    let s1 := s.modUsage t h (fun u => u.countDown s.unitBytes bytes)
    if 1 ≤ (u.residueDown + bytes) / s.unitBytes then s1.evaluateQuota t h else s1

/-! ### Round counts (R149) -/

/-- The round is impaired for a home: its mark says so (R129, R149). -/
def Tree.impaired (tr : Tree) (round : Nat) (h : HomeIdx) : Bool :=
  match tr.marks.find? (fun m => decide (m.round = round)) with
  | some m => m.notClear || m.testDark.contains h
  | none => false

/-- The round counts of a home at a round receive end (R149). -/
def Home.countRound (x : Home) (impaired : Bool) : Home :=
  if x.record.state = .active then
    { x with usage := x.usage.map (fun u =>
        { u with counters := { u.counters with
            activeRounds := u.counters.activeRounds.add 1
            throttledRounds :=
              if x.record.throttled = some true then u.counters.throttledRounds.add 1
              else u.counters.throttledRounds
            impairedRounds :=
              if impaired then u.counters.impairedRounds.add 1 else u.counters.impairedRounds } }) }
  else x

/-- The round counts of a tree (R149). -/
def State.countRounds (s : State) (t : TreeId) (round : Nat) : State :=
  s.modTree t (fun tr => tr.mapHomes (fun h x => x.countRound (tr.impaired round h)))

/-! ### The cut (R164, R165) -/

/-- The indices that a USAGE entry covers. -/
def coveredHomes (first : HomeIdx) (count : Nat) : List HomeIdx :=
  allHomes.filter (fun h => decide (first.val ≤ h.val) && decide (h.val < first.val + count))

/-- The snapshot record of one index (R164, R165). -/
def State.snapshotOf (s : State) (t : TreeId) (h : HomeIdx) : SnapshotRecord :=
  let x := s.home t h
  match x.usage with
  | none => .empty t h x.record.state
  | some u =>
    match u.inSnapshot with
    | some tag => .heldElsewhere (x.record.serial.getD 0) t h x.record.generation tag
    | none => .taken (x.record.serial.getD 0) t h x.record.generation u.interval u.counters

/-- The usage entry after the cut of its index: an entry not held elsewhere gives up its open counters,
keeping its residues (R164). -/
def UsageEntry.cut (u : UsageEntry) (tag : Nat) : UsageEntry :=
  match u.inSnapshot with
  | some _ => u
  | none => { u with counters := .zero, inSnapshot := some tag }

/-- A PREPARING USAGE entry is cut and becomes READY (R164). -/
def State.cut (s : State) (e : Readout) : State :=
  match e.range with
  | .departed => s
  | .usage t first =>
    let covered := coveredHomes first e.count
    let snapshot := covered.map (s.snapshotOf t)
    (s.modTree t (fun tr => tr.mapHomes (fun h x =>
        if covered.contains h then { x with usage := x.usage.map (·.cut e.tag) } else x))).modMeter
      (fun m => { m with readouts := m.readouts.map (fun x =>
        if x.tag = e.tag then
          { x with state := .ready, timer := some (startTimer s.cfg.pickupWait), snapshot := snapshot }
        else x) })

/-- The entry is a PREPARING USAGE entry of tree `t`. -/
def Readout.preparingOn (t : TreeId) (e : Readout) : Bool :=
  decide (e.state = .preparing) && match e.range with
    | .usage t' _ => decide (t' = t)
    | .departed => false

/-- The Meter takes a round receive end: the round counts first, then the cuts in the order of creation
(R149, R164). -/
def State.meterReceiveEnd (s : State) (t : TreeId) (round : Nat) : State :=
  let s := s.countRounds t round
  (s.meter.readouts.filter (Readout.preparingOn t)).foldl State.cut s

/-! ### Commit and merge-back (R168, R169) -/

/-- The record still belongs to the home of a snapshot record: same generation, and tiered (R168,
R169). -/
def State.stillHolds (s : State) (t : TreeId) (h : HomeIdx) (generation : Nat) : Bool :=
  decide ((s.record t h).generation = generation) && isTiered (s.record t h).state

/-- An entry is freed. -/
def Meter.free (m : Meter) (tag : Nat) : Meter :=
  { m with readouts := m.readouts.filter (fun e => !decide (e.tag = tag)) }

/-- Every departed record that carries the tag is removed (R156, R168). -/
def Meter.removeMarked (m : Meter) (tag : Nat) : Meter :=
  { m with departed := m.departed.filter (fun d => !decide (d.mark = some tag)) }

/-- Every departed record that carries the tag loses its mark and keeps its place (R156, R169). -/
def Meter.unmark (m : Meter) (tag : Nat) : Meter :=
  { m with departed := m.departed.map (fun d =>
      if d.mark = some tag then { d with mark := none } else d) }

/-- A snapshot record is committed (R168). DESIGN CHOICE: notes/assumptions/20.md. -/
def State.commitRecord (s : State) : SnapshotRecord → State
  | .taken _ t h generation _ _ =>
    if s.stillHolds t h generation then
      (s.modUsage t h (fun u =>
        { u with interval := (u.interval + 1) % Config.intervalWrap, inSnapshot := none })).reviewQuota
        t h
    else s
  | .heldElsewhere _ _ _ _ _ | .empty _ _ _ => s

/-- A readout is committed (R168). -/
def State.commit (s : State) (e : Readout) : State :=
  match e.range with
  | .usage _ _ => (e.snapshot.foldl State.commitRecord s).modMeter (·.free e.tag)
  | .departed =>
    s.modMeter (fun m => (m.removeMarked e.tag).free e.tag)

/-- A snapshot record is merged back (R169). -/
def State.mergeRecord (s : State) : SnapshotRecord → State
  | .taken serial t h generation interval counters =>
    if s.stillHolds t h generation then
      (s.modUsage t h (fun u =>
        { u with counters := u.counters.merge counters, inSnapshot := none })).evaluateQuota t h
    else
      s.modMeter (·.append { serial := serial, tree := t, home := h, generation := generation,
                             reason := .merged, interval := interval, counters := counters,
                             mark := none })
  | .heldElsewhere _ _ _ _ _ | .empty _ _ _ => s

/-- A readout is merged back and freed (R169). -/
def State.mergeBack (s : State) (e : Readout) : State :=
  match e.range with
  | .usage _ _ => (e.snapshot.foldl State.mergeRecord s).modMeter (·.free e.tag)
  | .departed =>
    s.modMeter (fun m => (m.unmark e.tag).free e.tag)

/-! ### READ (R160 to R163) -/

/-- The tag after `n` (R159). -/
def tagAfter (n : Nat) : Nat := if n = Config.tagMax then 1 else n + 1

/-- The next tag value, advanced past the tags in use (R159). -/
def freeTag (used : List Nat) : Nat → Nat → Nat
  | 0, n => n
  | fuel + 1, n => if used.contains n then freeTag used fuel (tagAfter n) else n

/-- A READ as tested and clamped (R160): its range and count. -/
structure ReadRange where
  range : ReadoutRange
  count : Nat
  deriving DecidableEq, Repr

/-- The range that a READ names, clamped, or `none` where it is BAD_RANGE (R160, R187).
DESIGN CHOICE: notes/assumptions/15.md. -/
def State.readRange (s : State) (kind tree first count : Nat) : Option ReadRange :=
  match kind with
  | 0 =>
    if ht : tree < 4 then
      if hf : first < 128 then
        if s.enabled ⟨tree, ht⟩ then
          some ⟨.usage ⟨tree, ht⟩ ⟨first, hf⟩, min (max 1 (min count 6)) (128 - first)⟩
        else none
      else none
    else none
  | 1 => some ⟨.departed, max 1 (min count 4)⟩
  | _ => none

/-- The reference of an answer to a READ: the clamped READ; a DEPARTED READ leaves its tree and first
index unused (R160, R181, R183). -/
def ReadRange.reference (r : ReadRange) : Reference :=
  match r.range with
  | .usage t first => .read 0 t first r.count
  | .departed => .read 1 0 0 r.count

/-- The entry matches a READ of `sender` with an equal count (R161). -/
def Readout.equals (sender : Nat) (r : ReadRange) (e : Readout) : Bool :=
  decide (e.requester = sender) && decide (e.range = r.range) && decide (e.count = r.count)

/-- The entry matches a READ of `sender` with a larger count (R161). -/
def Readout.exceeds (sender : Nat) (r : ReadRange) (e : Readout) : Bool :=
  decide (e.requester = sender) && decide (e.range = r.range) && decide (r.count < e.count)

/-- The entry that a READ matches: an equal count before a larger one, which only ALIAS lets match, and
the earliest created of the same kind (R161). -/
def State.matchRead (s : State) (sender : Nat) (r : ReadRange) : Option Readout :=
  (s.meter.readouts.find? (Readout.equals sender r)).or
    (if s.cfg.aliasOn then s.meter.readouts.find? (Readout.exceeds sender r) else none)

/-- The records of a readout's DATA (R162, R163). -/
def Meter.dataRecords (m : Meter) (e : Readout) : List DataRecord :=
  match e.range with
  | .usage _ _ => e.snapshot.map .snapshot
  | .departed => (m.departed.filter (fun d => decide (d.mark = some e.tag))).map .departed

/-- The first index that a DATA names (R183); a DEPARTED entry has none. -/
def Readout.firstIndex (e : Readout) : Nat :=
  match e.range with
  | .usage _ first => first
  | .departed => 0

/-- The DATA of an entry (R162). -/
def Meter.dataAnswer (m : Meter) (r : ReadRange) (e : Readout) : Msg :=
  .data r.reference e.tag e.firstIndex e.count (m.dataRecords e)

/-- The oldest unmarked departed records, at most `n`, are marked with the tag (R163). -/
def markOldest (tag : Nat) : Nat → List DepartedRecord → List DepartedRecord
  | 0, l => l
  | _ + 1, [] => []
  | n + 1, d :: l =>
    match d.mark with
    | none => { d with mark := some tag } :: markOldest tag n l
    | some _ => d :: markOldest tag (n + 1) l

/-- A new entry joins the table (R159, R162, R163). -/
def State.newReadout (s : State) (sender : Nat) (r : ReadRange) : State :=
  let tag := s.meter.nextTag
  let e : Readout :=
    { requester := sender, range := r.range, count := r.count, tag := tag,
      state := match r.range with
        | .usage _ _ => .preparing
        | .departed => .ready
      timer := match r.range with
        | .usage _ _ => none
        | .departed => some (startTimer s.cfg.pickupWait)
      snapshot := [] }
  s.modMeter (fun m =>
    { m with
        readouts := m.readouts ++ [e]
        nextTag := freeTag ((m.readouts ++ [e]).map Readout.tag) (m.readouts.length + 1) (tagAfter tag)
        departed := match r.range with
          | .usage _ _ => m.departed
          | .departed => markOldest tag r.count m.departed })

/-- The entry becomes DELIVERED, and CONFIRM_WAIT starts from its full value (R162). -/
def State.deliver (s : State) (e : Readout) : State :=
  s.modMeter (fun m => { m with readouts := m.readouts.map (fun x =>
    if x.tag = e.tag then
      { x with state := .delivered, timer := some (startTimer s.cfg.confirmWait) }
    else x) })

/-- The Meter answers a READ in range (R162). -/
def State.answerRead (s : State) (sender : Nat) (r : ReadRange) : State :=
  match s.matchRead sender r with
  | some e =>
    match e.state with
    | .preparing => s.post .meter sender (.pending r.reference e.tag)
    | .ready | .delivered => (s.deliver e).post .meter sender (s.meter.dataAnswer r e)
  | none =>
    if s.meter.readouts.length < Config.readoutPlaces then
      (s.newReadout sender r).post .meter sender (.pending r.reference s.meter.nextTag)
    else s.post .meter sender (.busy r.reference)

/-- READ (R160, R162). -/
def execRead (sender kind tree first count : Nat) (s : State) : Result :=
  s.whileUp
    (let s1 := s.take (.read sender kind tree first count)
     if s.obeys sender then
       match s1.readRange kind tree first count with
       | some r => s1.answerRead sender r
       | none => s1.post .meter sender (.declined (.read kind tree first count) .badRange none)
     else s1)

/-- The entry that a CONFIRM commits: DELIVERED, of its sender and with its tag (R167). -/
def Readout.confirmedBy (sender tag : Nat) (e : Readout) : Bool :=
  decide (e.tag = tag) && decide (e.state = .delivered) && decide (e.requester = sender)

/-- CONFIRM (R167). -/
def execConfirm (sender tag : Nat) (s : State) : Result :=
  s.whileUp
    (let s1 := s.take (.confirm sender tag)
     if s.obeys sender then
       match s1.meter.readouts.find? (Readout.confirmedBy sender tag) with
       | some e => (s1.commit e).post .meter sender (.accepted (.confirm tag) none)
       | none => s1.post .meter sender (.stale (.confirm tag))
     else s1)

/-- The entry with the tag, in the state given, whose timer has run out (R166). -/
def Readout.expiredIn (state : ReadoutState) (tag : Nat) (e : Readout) : Bool :=
  decide (e.tag = tag) && decide (e.state = state) && decide (e.timer = some 0)

/-- PICKUP_WAIT_EXPIRY (R166). -/
def execPickupWaitExpiry (tag : Nat) (s : State) : Result :=
  s.whileUp
    (match s.meter.readouts.find? (Readout.expiredIn .ready tag) with
     | some e => (s.modMeter (fun m => { m with missedPickups := bump m.missedPickups })).mergeBack e
     | none => s)

/-- CONFIRM_WAIT_EXPIRY (R166). -/
def execConfirmWaitExpiry (tag : Nat) (s : State) : Result :=
  s.whileUp
    (match s.meter.readouts.find? (Readout.expiredIn .delivered tag) with
     | some e => s.mergeBack e
     | none => s)

end Sys2Proof.Machine
end

