-- ==== Sys2Proof/Machine/HomeTable.lean ====
section
/-! DEFINITION. The management requests on records and the tree restart (chapters 2 and 10): the meanings
of REFUSE, RELEASE, DISMISS, LOST_HOLD_EXPIRY, QUERY_HOME and RESTART. -/

namespace Sys2Proof.Machine

/-! ### Answers to requests on homes (R37) -/

/-- A request on a home is answered ACCEPTED (R37). -/
def State.acceptHome (s : State) (sender : Nat) (request : SerialRequest) (serial : Serial) : State :=
  s.post .enrolment sender (.accepted (.serial request serial) none)

/-- A request on a home is answered DECLINED (R37). -/
def State.declineHome (s : State) (sender : Nat) (request : SerialRequest) (serial : Serial)
    (reason : DeclineReason) : State :=
  s.post .enrolment sender (.declined (.serial request serial) reason none)

/-! ### REFUSE, RELEASE, DISMISS (R38 to R40) -/

/-- A REFUSE bars the record it finds (R38). -/
def State.refuseHome (s : State) (t : TreeId) (h : HomeIdx) : State :=
  ((s.handOffTiered t h .refused).changeState t h .barred (some (startTimer s.cfg.barHold))
    .refuse).queueWord t (.darken h)

/-- REFUSE (R37, R38). -/
def execRefuse (sender : Nat) (serial : Serial) (s : State) : Result :=
  s.whileUp
    (let s1 := s.take (.refuse sender serial)
     if s.obeys sender then
       match s1.lookup serial with
       | none => s1.declineHome sender .refuse serial .notFound
       | some (t, h) => (s1.refuseHome t h).acceptHome sender .refuse serial
     else s1)

/-- A RELEASE of the record it finds, with its answer (R39). -/
def State.releaseHome (s : State) (sender : Nat) (serial : Serial) (t : TreeId) (h : HomeIdx) : State :=
  match (s.record t h).state with
  | .quenched =>
    ((s.changeState t h .active none .release).queueWord t (.light h)).acceptHome sender .release serial
  | .barred => (s.freeWithDismiss t h .release).acceptHome sender .release serial
  | .free | .claiming | .awaiting | .active | .lost =>
    s.declineHome sender .release serial .wrongState

/-- RELEASE (R37, R39). -/
def execRelease (sender : Nat) (serial : Serial) (s : State) : Result :=
  s.whileUp
    (let s1 := s.take (.release sender serial)
     if s.obeys sender then
       match s1.lookup serial with
       | none => s1.declineHome sender .release serial .notFound
       | some (t, h) => s1.releaseHome sender serial t h
     else s1)

/-- DISMISS (R37, R40). -/
def execDismiss (sender : Nat) (serial : Serial) (s : State) : Result :=
  s.whileUp
    (let s1 := s.take (.dismiss sender serial)
     if s.obeys sender then
       match s1.lookup serial with
       | none => s1.declineHome sender .dismiss serial .notFound
       | some (t, h) =>
         (s1.departWithDismiss t h .dismissed .dismiss).acceptHome sender .dismiss serial
     else s1)

/-- LOST_HOLD_EXPIRY (R35). -/
def execLostHoldExpiry (t : TreeId) (h : HomeIdx) (s : State) : Result :=
  s.whileUp
    (if s.expired t h .lost then s.departWithDismiss t h .lostExpired .lostExpired else s)

/-! ### QUERY HOME (R42) -/

/-- The record that a QUERY HOME names, or the reason for declining it (R42, R187).
DESIGN CHOICE: notes/assumptions/16.md. -/
def State.queriedHome (s : State) (q : QueryBody) : Except DeclineReason (TreeId × HomeIdx) :=
  match q.form with
  | 0 =>
    if ht : q.tree < 4 then
      if hh : q.index < 128 then
        if s.enabled ⟨q.tree, ht⟩ then .ok (⟨q.tree, ht⟩, ⟨q.index, hh⟩) else .error .badRange
      else .error .badRange
    else .error .badRange
  | 1 =>
    match s.lookup q.serial with
    | some found => .ok found
    | none => .error .notFound
  | _ => .error .badRange

/-- QUERY_HOME (R42). -/
def execQueryHome (sender : Nat) (q : QueryBody) (s : State) : Result :=
  s.whileUp
    (let s1 := s.take (.queryHome sender q)
     if s.answersQuery (.queryHome sender q) sender then
       match s1.queriedHome q with
       | .ok (t, h) => s1.post .enrolment sender (.status (.query 2 q) (.home (s1.homeStatus t h)))
       | .error reason => s1.post .enrolment sender (.declined (.query 2 q) reason none)
     else s1)

/-! ### RESTART (R12, R43, R65, R106, R144, R170, R179) -/

/-- A non-FREE record of a restarted tree is handed off and freed (R43). -/
def State.restartRecord (t : TreeId) (s : State) (h : HomeIdx) : State :=
  if (s.record t h).state = .free then s
  else (s.handOffTiered t h .restart).changeState t h .free none .restart

/-- A readout of a restarted tree that has not been delivered is freed, or merged back (R170). -/
def State.restartReadout (t : TreeId) (s : State) (e : Readout) : State :=
  match e.range with
  | .departed => s
  | .usage t' _ =>
    if t' = t then
      match e.state with
      | .preparing => s.modMeter (·.free e.tag)
      | .ready => s.mergeBack e
      | .delivered => s
    else s

/-- The readouts of a restarted tree are ended in the order of their creation (R170). -/
def State.restartReadouts (s : State) (t : TreeId) : State :=
  s.meter.readouts.foldl (State.restartReadout t) s

/-- The Transmitter at a restart of its tree: the queue flushed without counting, one DISMISS-ALL, and
every pending plan emptied (R12). -/
def Transmitter.restarted (tx : Transmitter) : Transmitter :=
  { tx with words := [.dismissAll],
            pendingPlans := tx.pendingPlans.map (fun p => { round := p.round, grants := [], call := false }) }

/-- A tree's Transmitter, discovery countdown, home pointer and light state at its restart (R12, R65,
R106, R144). -/
def Tree.restarted (tr : Tree) : Tree :=
  { tr with tx := tr.tx.restarted, enrol := { tr.enrol with countdown := 0 }, homePointer := 0,
            light := .clear 0 }

/-- The restart event of an enabled tree (R179). -/
def State.restartTree (s : State) (t : TreeId) : State :=
  (((allHomes.foldl (State.restartRecord t) s).restartReadouts t).setTestDark t (fun _ => none)).modTree
    t Tree.restarted

/-- RESTART (R179). -/
def execRestart (sender tree : Nat) (s : State) : Result :=
  s.whileUp
    (let s1 := s.take (.restart sender tree)
     if s.obeys sender then
       if ht : tree < 4 then
         if s1.enabled ⟨tree, ht⟩ then
           (s1.restartTree ⟨tree, ht⟩).post .enrolment sender (.accepted (.restart tree) none)
         else s1.post .enrolment sender (.declined (.restart tree) .badRange none)
       else s1.post .enrolment sender (.declined (.restart tree) .badRange none)
     else s1)

end Sys2Proof.Machine
end

