-- ==== Sys2Proof/Machine/Planner.lean ====
section
/-! DEFINITION. Upstream grant planning (chapter 5): the meaning of PLAN_BUILD, with the discovery decision
of R64 and the Monitor's hand-over of R89, R129 and R131. -/

namespace Sys2Proof.Machine

/-! ### The served set (R93, R94) -/

/-- What a served home asks for: its generation, its committed and its excess demand (R93, R104). -/
structure Ask where
  home : HomeIdx
  generation : Nat
  committed : Nat
  excess : Nat
  deriving DecidableEq, Repr

/-- The record is in the served set of a build (R94). -/
def State.serves (s : State) (r : HomeRecord) : Bool :=
  decide (r.state = .active) && !decide (r.testDark = some true)
    && (decide (0 < s.wholeOf r) || decide (r.pollCountdown.getD 0 = 0))

/-- The served set of a tree in ascending index, with each home's figures (R93, R94). -/
def State.asks (s : State) (t : TreeId) : List Ask :=
  (allHomes.filter (fun h => s.serves (s.record t h))).map (fun h =>
    { home := h, generation := (s.record t h).generation,
      committed := s.committedOf (s.record t h), excess := s.excessOf (s.record t h) })

/-! ### The discovery decision (R64, R88) -/

/-- The countdown that the build's event finds, decreased by 1 if it is above 0 (R64). -/
def EnrolFigures.counted (e : EnrolFigures) : Nat := e.countdown - 1

/-- The light state is CLEAR. -/
def Light.isClear : Light → Bool
  | .clear _ => true
  | .search _ | .verify _ | .foreign _ | .off => false

/-- The plan being built for tree `t` is a discovery round (R64). -/
def State.discovers (s : State) (t : TreeId) : Bool :=
  s.enabled t && decide ((s.tree t).enrol.counted = 0) && (s.tree t).light.isClear
    && (s.lowestFree t).isSome

/-! ### Room and the committed stage (R95 to R98) -/

/-- W_t: the width of the discovery window (R88). -/
def windowWidth (call : Bool) : Nat := if call then Config.windowBlocks else 0

/-- A_t: the room of a tree (R95). -/
def roomOf (call : Bool) (served : Nat) : Nat :=
  Config.roundBlocks - Config.tailBlocks - windowWidth call - 2 * served

/-- The sum of committed demands. -/
def committedTotal (asks : List Ask) : Nat := (asks.map Ask.committed).sum

/-- The sum of excess demands: X_t (R99). -/
def excessTotal (asks : List Ask) : Nat := (asks.map Ask.excess).sum

/-- Committed demand scaled by `num / den`, rounded down (R96, R97). -/
def Ask.scale (num den : Nat) (a : Ask) : Ask := { a with committed := a.committed * num / den }

/-- One tree's part of a build. -/
structure TreeBuild where
  tree : TreeId
  call : Bool
  asks : List Ask
  scaled : Bool
  deriving DecidableEq, Repr

def TreeBuild.room (b : TreeBuild) : Nat := roomOf b.call b.asks.length

/-- The committed demand of one tree is fitted to its room (R96). -/
def TreeBuild.fit (b : TreeBuild) : TreeBuild :=
  let total := committedTotal b.asks
  if total ≤ b.room then b
  else { b with asks := b.asks.map (Ask.scale b.room total), scaled := true }

/-- The chip's committed total (R97). -/
def chipTotal (bs : List TreeBuild) : Nat := (bs.map (fun b => committedTotal b.asks)).sum

/-- The committed demand of all trees is fitted to the share; the second part says whether the chip was
scaled (R97). -/
def fitShare (share : Nat) (bs : List TreeBuild) : List TreeBuild × Bool :=
  let total := chipTotal bs
  if total ≤ share then (bs, false)
  else (bs.map (fun b => { b with asks := b.asks.map (Ask.scale share total) }), true)

/-- r_t: the spare room that the committed stage hands on (R98). -/
def TreeBuild.spare (b : TreeBuild) : Nat :=
  if b.scaled then 0 else b.room - committedTotal b.asks

/-- The pool that the committed stage hands on (R98). -/
def poolOf (share : Nat) (bs : List TreeBuild) (chipScaled : Bool) : Nat :=
  if chipScaled then 0 else share - chipTotal bs

/-! ### The excess stage (R99, R100) -/

/-- One claimant of a division: a tree number or a home index, and the most it can take. -/
structure Want where
  key : Nat
  want : Nat
  deriving DecidableEq, Repr

/-- The claimants in the order of a visit that starts at `pointer` and wraps. -/
def visitFrom (pointer : Nat) (l : List Want) : List Want :=
  l.filter (fun w => decide (pointer ≤ w.key)) ++ l.filter (fun w => decide (w.key < pointer))

def wantTotal (l : List Want) : Nat := (l.map Want.want).sum

/-- The claimants that gain one block of the remainder, in the order visited (R99, R100). -/
def gainers (pointer pool : Nat) (l : List Want) : List Nat :=
  let part := fun w : Want => pool * w.want / wantTotal l
  let rest := pool - (l.map part).sum
  (((visitFrom pointer l).filter (fun w => decide (part w < w.want))).take rest).map Want.key

/-- The allotment of one claimant out of `pool` (R99, R100). -/
def allot (pointer pool : Nat) (l : List Want) (w : Want) : Nat :=
  if wantTotal l ≤ pool then w.want
  else pool * w.want / wantTotal l + (if (gainers pointer pool l).contains w.key then 1 else 0)

/-- Where the pointer stands after the division: after the last claimant that gained a block, modulo the
number of keys; unchanged where none gained (R99, R100). -/
def pointerAfter (modulus pointer pool : Nat) (l : List Want) : Nat :=
  if wantTotal l ≤ pool then pointer
  else match (gainers pointer pool l).getLast? with
    | some key => (key + 1) % modulus
    | none => pointer

/-- m_t of every enabled tree: the least of X_t and r_t (R99). -/
def treeWants (bs : List TreeBuild) : List Want :=
  bs.map (fun b => ⟨b.tree.val, min (excessTotal b.asks) b.spare⟩)

/-- e_h of every served home of a tree (R100). -/
def homeWants (asks : List Ask) : List Want := asks.map (fun a => ⟨a.home.val, a.excess⟩)

/-- The whole division of one build. -/
structure Division where
  builds : List TreeBuild
  pool : Nat
  deriving DecidableEq, Repr

/-- The committed stage of the build: every tree fitted to its room, then all to the share (R96 to
R98). -/
def State.division (s : State) : Division :=
  let fitted := s.enabledTrees.map (fun t =>
    TreeBuild.fit { tree := t, call := s.discovers t, asks := s.asks t, scaled := false })
  let chip := fitShare s.share.share fitted
  { builds := chip.1, pool := poolOf s.share.share chip.1 chip.2 }

/-- a_t: the part of the pool that a tree is allotted (R99). -/
def State.allotmentOf (s : State) (b : TreeBuild) : Nat :=
  allot s.treePointer s.division.pool (treeWants s.division.builds)
    ⟨b.tree.val, min (excessTotal b.asks) b.spare⟩

/-- A served home's payload: its committed grant with its excess grant (R102). -/
def State.payloadOf (s : State) (b : TreeBuild) (a : Ask) : Nat :=
  a.committed + allot (s.tree b.tree).homePointer (s.allotmentOf b) (homeWants b.asks)
    ⟨a.home.val, a.excess⟩

/-! ### Placement (R103, R104) -/

/-- Bursts end to end from block `start`, in the order given (R103). -/
def place : Nat → List (Ask × Nat) → List Grant
  | _, [] => []
  | start, (a, payload) :: rest =>
    { home := a.home, start := start, payload := payload, generation := a.generation }
      :: place (start + 2 + payload) rest

/-- The plan that the build makes for one tree (R104). -/
def State.planOf (s : State) (b : TreeBuild) : Plan where
  round := roundAdd s.round 2
  grants := place 0 (b.asks.map (fun a => (a, s.payloadOf b a)))
  call := b.call

/-! ### What the build leaves -/

/-- A home after a build that granted it `grant` payload blocks, or did not serve it: the decrease of the
backlog on record, the poll countdown, and the report folded in (R91, R92). -/
def Home.afterBuild (x : Home) (pollEvery : Nat) (grant : Option Nat) : Home :=
  if x.record.state = .active then
    { x with
        record := { x.record with
          backlog := some (x.reportSlot.getD (x.record.waiting - grant.getD 0))
          pollCountdown := some (match grant with
            | some _ => pollEvery - 1
            | none => x.record.pollCountdown.getD 0 - 1) }
        reportSlot := none }
  else x

/-- The payload that a plan grants a home, if it serves it. -/
def Plan.grantTo (p : Plan) (h : HomeIdx) : Option Nat :=
  (p.grants.find? (fun g => decide (g.home = h))).map Grant.payload

/-- The homes that the build left out because their test_dark flag was set (R89).
DEDUCED: notes/assumptions/19.md. -/
def State.leftDark (s : State) (t : TreeId) : List HomeIdx :=
  allHomes.filter (fun h => decide ((s.record t h).state = .active)
    && decide ((s.record t h).testDark = some true))

/-- The first build taken while a search step is CHOSEN makes the test round: a TEST-DARK is queued, and
the phase becomes TESTING, or VOID where the word was dropped (R131, R132). -/
def Tree.setTestRound (tr : Tree) (round : Nat) : Tree :=
  match tr.light with
  | .search d =>
    match d.phase with
    | .chosen =>
      let pushed := tr.tx.push (.testDark round d.testHalf)
      { tr with tx := pushed.1,
                light := .search { d with phase := if pushed.2 then .void round else .testing round } }
    | .testing _ | .void _ => tr
  | .clear _ | .verify _ | .foreign _ | .off => tr

/-- A tree after the build of `plan` (R3, R64, R91, R92, R100, R104, R129, R131).  The Transmitter holds
at most two pending plans. -/
def State.treeAfterBuild (s : State) (b : TreeBuild) : Tree :=
  let t := b.tree
  let tr := s.tree t
  let plan := s.planOf b
  let tr := { tr.mapHomes (fun h x => x.afterBuild s.cfg.pollEvery (plan.grantTo h)) with
                enrol := { tr.enrol with
                  countdown := if b.call then s.cfg.callEvery else tr.enrol.counted }
                tx := { tr.tx with pendingPlans := keepYoungest 2 (tr.tx.pendingPlans ++ [plan]) }
                homePointer := Fin.ofNat 128
                  (pointerAfter 128 tr.homePointer (s.allotmentOf b) (homeWants b.asks))
                marks := tr.marks ++
                  [Mark.mk plan.round (!tr.light.isClear) (s.leftDark t)] }
  tr.setTestRound plan.round

/-- The plan build (R86). -/
def State.buildPlans (s : State) : State :=
  { s with
      buildDue := false
      treePointer := Fin.ofNat 4
        (pointerAfter 4 s.treePointer s.division.pool (treeWants s.division.builds))
      trees := tabulate (fun t =>
        match s.division.builds.find? (fun b => decide (b.tree = t)) with
        | some b => s.treeAfterBuild b
        | none => s.tree t) }

/-- PLAN_BUILD: the build of the present opening is taken once, while the chip is RUNNING (R86).
DESIGN CHOICE: notes/assumptions/5.md. -/
def execPlanBuild (s : State) : Result :=
  s.whileUp (if s.buildDue && s.running then s.buildPlans else s)

end Sys2Proof.Machine
end

