-- ==== Sys2Proof/Machine/Share.lean ====
section
/-! DEFINITION. District share (chapter 6): the meanings of EPOCH_END and DEMAND_RECEIVED. -/

namespace Sys2Proof.Machine

/-! ### The peer table (R113 to R115) -/

/-- Every entry ages by 1, and an entry whose age reaches 4 is removed (R115). -/
def agePeers (peers : List Peer) : List Peer :=
  (peers.map (fun p => { p with age := p.age + 1 })).filter
    (fun p => decide (p.age < Config.peerAgeLimit))

/-- The entry of a peer is made or refreshed with clamped figures and age 0 (R114). -/
def refreshPeer (chipMax address committed excess : Nat) (peers : List Peer) : List Peer :=
  let new : Peer := { address := address, committed := min committed chipMax,
                      excess := min excess chipMax, age := 0 }
  if peers.any (fun p => decide (p.address = address)) then
    peers.map (fun p => if p.address = address then new else p)
  else peers ++ [new]

/-- DEMAND_RECEIVED: 31 is no station (R114). -/
def execDemandReceived (peer committed excess homes : Nat) (s : State) : Result :=
  s.whileUp
    (let s1 := s.take (.demandReceived peer committed excess homes)
     if s.hearsPeer peer && decide (peer ≤ 30) then
       { s1 with share := { s1.share with
           peers := refreshPeer s.chipMax peer committed excess s1.share.peers } }
     else s1)

/-! ### The own demand and the share (R110, R116, R117) -/

/-- The ACTIVE records of the enabled trees (R110). -/
def State.activeRecords (s : State) : List HomeRecord :=
  s.enabledTrees.flatMap (fun t => (s.records t).filter (fun r => decide (r.state = .active)))

/-- The chip's own demand, each sum clamped to CHIP_MAX (R110). -/
def State.ownDemand (s : State) : OwnDemand where
  committed := min (s.activeRecords.map s.committedOf).sum s.chipMax
  excess := min (s.activeRecords.map s.excessOf).sum s.chipMax
  homes := s.activeRecords.length

/-- The share of a chip, from the district capacity, the sums over the shelf and its own figures, before
the clamp (R116). -/
def shareBefore (capacity sumC sumE stations c e : Nat) : Nat :=
  if capacity ≤ sumC then capacity * c / sumC
  else if 0 < sumE then c + (capacity - sumC) * e / sumE
  else c + (capacity - sumC) / stations

/-- The share that an epoch end computes from its peer table and own demand (R116, R117). -/
def State.newShare (s : State) (peers : List Peer) (own : OwnDemand) : Nat :=
  min
    (shareBefore s.cfg.capacity (own.committed + (peers.map Peer.committed).sum)
      (own.excess + (peers.map Peer.excess).sum) (peers.length + 1) own.committed own.excess)
    s.chipMax

/-- The epoch end: ageing, own demand, share, and the DEMAND (R109, R112). -/
def State.endEpoch (s : State) : State :=
  let peers := agePeers s.share.peers
  let own := s.ownDemand
  { s with
      epochDue := false
      share := { s.share with peers := peers, own := some own, share := s.newShare peers own } }.post
    .share Config.allStations (.demand own.committed own.excess own.homes)

/-- EPOCH_END: taken once at the opening at which the epoch counter reached 32 (R108).
DESIGN CHOICE: notes/assumptions/5.md. -/
def execEpochEnd (s : State) : Result :=
  s.whileUp (if s.epochDue && s.running then s.endEpoch else s)

end Sys2Proof.Machine
end

