-- ==== Sys2Proof/Machine/ShelfBus.lean ====
section
/-! DEFINITION. The shelf bus (chapter 3): the meanings of LINE_IDLE, CONTENTION_LOST,
ADDRESS_CLASH_SENDING, FRAME_SENT, FRAME_RECEIVED, QUERY_CHIP and QUERY_TREE. -/

namespace Sys2Proof.Machine

/-! ### Sending (R46 to R48) -/

/-- The entry on the line, if one is (R55). -/
def Bus.sending (b : Bus) : Option TxEntry := b.queue.find? (·.onLine)

/-- The oldest entry equal to `e` is changed in its place. -/
def replaceEntry (e new : TxEntry) : List TxEntry → List TxEntry
  | [] => []
  | x :: l => if x = e then new :: l else x :: replaceEntry e new l

/-- LINE_IDLE: the line has been seen idle, and the head of the queue goes on the line (R46).  A message
posted while the line is idle already starts with the next such command.
DESIGN CHOICE: notes/assumptions/29.md. -/
def execLineIdle (s : State) : Result :=
  s.whileUp
    (let s1 := s.modBus (fun b => { b with lineSeen := true, clashFrame := false })
     match s.bus.sending, queueHead? s.bus.queue with
     | none, some e => s1.setQueue (replaceEntry e { e with onLine := true } s.bus.queue)
     | _, _ => s1)

/-- CONTENTION_LOST: the entry leaves the line and stays in its place (R46). -/
def execContentionLost (s : State) : Result :=
  s.whileUp
    (match s.bus.sending with
     | none => s
     | some e =>
       (s.setQueue (replaceEntry e { e with onLine := false } s.bus.queue)).modCounters
         (fun c => { c with losses := bump c.losses }))

/-- An ALARM ADDRESS_CLASH waits in the queue, other than on the line (R47, R50). -/
def Bus.clashAlarmWaits (b : Bus) : Bool :=
  b.queue.any (fun e => !e.onLine && match e.msg with
    | .alarm a => decide (a.kind = .addressClash)
    | _ => false)

/-- An ALARM ADDRESS_CLASH is posted if none waits (R47, R50, R59). DEDUCED: notes/assumptions/12.md. -/
def State.clashAlarm (s : State) (source : AlarmCause) : State :=
  if s.bus.clashAlarmWaits then s
  else s.post .bus Config.allStations (.alarm (plainAlarm .addressClash 0 s.round (some source)))

/-- The address clash counter gains 1 (R47, R50). -/
def State.countClash (s : State) : State :=
  s.modCounters (fun c => { c with clashes := bump c.clashes })

/-- The entry on the line after a clash: off the line with one clash more, or dropped at the sixteenth
(R47). DEDUCED: notes/assumptions/12.md. -/
def State.clashEntry (s : State) (e : TxEntry) : State :=
  let off := { e with onLine := false, clashes := e.clashes + 1 }
  if Config.clashLimit ≤ off.clashes then
    ((s.setQueue (s.bus.queue.erase e)).countDropped).tell .dropped off
  else s.setQueue (replaceEntry e off s.bus.queue)

/-- ADDRESS_CLASH_SENDING (R47). -/
def execAddressClashSending (s : State) : Result :=
  s.whileUp
    (match s.bus.sending with
     | none => s
     | some e =>
       (((s.clashEntry e).countClash).modBus (fun b => { b with clashFrame := true })).clashAlarm
         .sending)

/-- FRAME_SENT (R48). -/
def execFrameSent (s : State) : Result :=
  s.whileUp
    (match s.bus.sending with
     | none => s
     | some e =>
       (((s.setQueue (s.bus.queue.erase e)).modCounters (fun c => { c with sent := bump c.sent })).emit
         (.shelf (e.lineBits s.bus.address))).tell .sent e)

/-! ### Receiving (R49 to R54, R187) -/

/-- A frame is handed on by its kind and destination (R51). -/
def takenByKind (address : Nat) (f : ShelfFrame) : Bool :=
  match f.kind with
  | 0x10 | 0x02 | 0x03 | 0x04 => decide (f.dest = address) || decide (f.dest = Config.allStations)
  | 0x11 | 0x12 | 0x13 | 0x14 | 0x15 | 0x16 | 0x17 | 0x18 => decide (f.dest = address)
  | _ => false

/-- The kinds that a waiting chip takes: SETTINGS and QUERY (R52). -/
def takenWhileWaiting (kind : Nat) : Bool := decide (kind = 0x10) || decide (kind = 0x18)

/-- The management requests that only a manager may send (R54). -/
def needsManager (kind : Nat) : Bool := decide (0x11 ≤ kind) && decide (kind ≤ 0x18)

/-- The bad frames counter gains 1 (R49, R187). -/
def State.countBad (s : State) : State := s.modCounters (fun c => { c with bad := bump c.bad })

/-- A frame that passed the filter is tested for its length and handed on; a QUERY with an unknown
subject is declined (R54, R60, R63, R187). DESIGN CHOICE: notes/assumptions/15.md. -/
def State.handOn (s : State) (f : ShelfFrame) : State :=
  match requiredLength f.kind with
  | none => s
  | some n =>
    if f.body.length < n then s.countBad
    else
      let s1 := s.modCounters (fun c => { c with taken := bump c.taken })
      match f.command with
      | some c => s1.raise c
      | none =>
        s1.post .bus f.sender
          (.declined (.query (field 0 1 f.body) (queryOfBytes f.body)) .badRange none)

/-- A sound frame of another station is filtered by destination and kind, chip state and manager set
(R51, R52, R54). -/
def State.filterFrame (s : State) (f : ShelfFrame) : State :=
  if takenByKind s.bus.address f then
    match s.bus.chipState with
    | .waitingSettings => if takenWhileWaiting f.kind then s.handOn f else s
    | .running =>
      if needsManager f.kind && !s.bus.managers.contains f.sender then
        s.modCounters (fun c => { c with refused := bump c.refused })
      else s.handOn f
  else s

/-- A sound frame: one with the chip's own sender address is a clash (R50). -/
def State.takeFrame (s : State) (f : ShelfFrame) : State :=
  if f.sender = s.bus.address then (s.countClash).clashAlarm .received else s.filterFrame f

/-- FRAME_RECEIVED: nothing is read before the line's first idle (R46); a bad frame is counted (R49);
the rest of a frame that clashed while sending is handed to no block (R50).
DESIGN CHOICE: notes/assumptions/12.md. -/
def execFrameReceived (bits : List Bool) (s : State) : Result :=
  s.whileUp
    (if s.bus.lineSeen then
      let s1 := s.modBus (fun b => { b with clashFrame := false })
      match readFrame bits with
      | none => s1.countBad
      | some f => if s.bus.clashFrame then s1 else s1.takeFrame f
    else s)

/-! ### QUERY CHIP and QUERY TREE (R60 to R62) -/

/-- QUERY_CHIP (R60, R61).  The answer's reference is the body as received.
DEDUCED: notes/assumptions/31.md. -/
def execQueryChip (sender : Nat) (q : QueryBody) (s : State) : Result :=
  s.whileUp
    (let s1 := s.take (.queryChip sender q)
     if s.answersQuery (.queryChip sender q) sender then
       s1.post .bus sender (.status (.query 0 q) (.chip s1.chipStatus))
     else s1)

/-- QUERY_TREE (R60, R62).  The answer's reference is the body as received.
DEDUCED: notes/assumptions/31.md. -/
def execQueryTree (sender : Nat) (q : QueryBody) (s : State) : Result :=
  s.whileUp
    (let s1 := s.take (.queryTree sender q)
     if s.answersQuery (.queryTree sender q) sender then
       if ht : q.tree < 4 then
         s1.post .bus sender (.status (.query 1 q) (.tree (s1.treeStatus ⟨q.tree, ht⟩)))
       else s1.post .bus sender (.declined (.query 1 q) .badRange none)
     else s1)

end Sys2Proof.Machine
end

