-- ==== Sys2Proof/Machine/Startup.lean ====
section
/-! DEFINITION. Reset, the round opening, HELLO and SETTINGS (chapters 1 and 10): the meanings of
POWER_ON_RESET, PIN_RESET, RESET_END, ROUND_OPENING, HELLO_COUNTDOWN_EXPIRY and SETTINGS. -/

namespace Sys2Proof.Machine

/-! ### Reset (R172) -/

/-- A reset begins: the chip drives nothing on the shelf line, the entries of the transmit queue are lost
without a report (R58), and so are the frames waiting at the Transmitters (R24).
DESIGN CHOICE: notes/assumptions/6.md. -/
def State.beginReset (s : State) (cause : ResetCause) : State :=
  ({ s with inReset := some cause }.setQueue []).mapTrees
    (fun _ tr => { tr with tx := { tr.tx with taken := [] } })

/-- POWER_ON_RESET (R172). -/
def execPowerOnReset (s : State) : Result := .next (s.beginReset .power)

/-- PIN_RESET: a pin reset asserted while a power-on reset is in progress is part of it (R172). -/
def execPinReset (s : State) : Result :=
  .next (if s.inReset = some .power then s else s.beginReset .pin)

/-- The station address that the straps give: 31 is clamped to 30 (R44). -/
def addressOf (straps : Fin 32) : Nat := min straps.val 30

/-- RESET_END: every block takes its reset values (R172).  The queue of waiting commands and the record
of outputs are the model's and stay. DESIGN CHOICE: notes/assumptions/6.md. -/
def execResetEnd (straps : Fin 32) (s : State) : Result :=
  match s.inReset with
  | none => .next s
  | some cause =>
    .next { State.afterReset cause (addressOf straps) with
              pending := s.pending, outputs := s.outputs }

/-! ### The round opening (R1, R36, R84, R108, R129, R142, R158, R174) -/

/-- A home at a round opening: its timers count (R36, R84). -/
def Home.atOpening (x : Home) : Home :=
  { x with record := { x.record with stateTimer := tick x.record.stateTimer },
           trimHold := tick x.trimHold }

/-- A light state at a round opening: the foreign timer counts (R142). -/
def Light.atOpening : Light → Light
  | .foreign n => .foreign (n - 1)
  | .clear n => .clear n
  | .search d => .search d
  | .verify v => .verify v
  | .off => .off

/-- A tree at the opening of round `round`: timers count, the mark of the round before last is discarded
(R129), and on an enabled tree a header and a block 1600 are due (R5, R13).  The downstream line begins
a new round, whose header goes first (R23). -/
def Tree.atOpening (tr : Tree) (round : Nat) (enabled : Bool) : Tree :=
  { tr.mapHomes (fun _ x => x.atOpening) with
      light := tr.light.atOpening
      marks := tr.marks.filter (fun m => !decide (roundAdd m.round 2 = round))
      tx := { tr.tx with lineRoom := 0 }
      headerDue := enabled
      receiveDue := enabled }

/-- The epoch counter at a round opening (R108). -/
def ShareUnit.atOpening (u : ShareUnit) (running : Bool) : ShareUnit :=
  if running then { u with epoch := (u.epoch + 1) % Config.epochRounds } else u

def Readout.atOpening (e : Readout) : Readout := { e with timer := tick e.timer }

/-- What a round opening does (R1). DESIGN CHOICE: notes/assumptions/5.md. -/
def State.openRound (s : State) : State :=
  let round := roundAdd s.round 1
  { s with
      round := round
      buildDue := s.running
      epochDue := s.epochDue || (s.running && decide (s.share.epoch + 1 = Config.epochRounds))
      share := s.share.atOpening s.running
      bus := { s.bus with helloCountdown := tick s.bus.helloCountdown }
      meter := { s.meter with readouts := s.meter.readouts.map Readout.atOpening }
      trees := tabulate (fun t => (s.tree t).atOpening round (s.enabled t)) }

/-- ROUND_OPENING (R1). -/
def execRoundOpening (s : State) : Result := s.whileUp s.openRound

/-! ### HELLO (R174) -/

/-- The Interface posts a HELLO (R174). -/
def State.postHello (s : State) : State :=
  s.post .bus Config.allStations
    (.hello s.bus.address s.bus.resetCause s.bus.chipState s.round)

/-- HELLO_COUNTDOWN_EXPIRY (R174). DESIGN CHOICE: notes/assumptions/5.md. -/
def execHelloCountdownExpiry (s : State) : Result :=
  s.whileUp
    (if s.bus.helloCountdown = some 0 then
      s.postHello.modBus (fun b => { b with helloCountdown := some Config.helloEvery })
    else s)

/-! ### SETTINGS (R175 to R178) -/

/-- A value outside its range is replaced by the nearest bound (R176). -/
def clampNat (low high n : Nat) : Nat := max low (min n high)

/-- A tier's rates: CR is clamped first, and PR lies within that CR to 3000 (R176). -/
def TierRates.clamped (r : TierRates) : TierRates :=
  ⟨clampNat 0 2000 r.cr, clampNat (clampNat 0 2000 r.cr) 3000 r.pr⟩

/-- The settings as clamped at their acceptance (R176). -/
def clampSettings (c : Settings) : Settings where
  enabled := if c.enabled = 0 then 1 else c.enabled
  capacity := clampNat 1000 255000 c.capacity
  admitCap := clampNat 500 3900 c.admitCap
  tiers := tabulate (fun k => TierRates.clamped (c.tiers.get k))
  unitExp := clampNat 6 16 c.unitExp
  callEvery := clampNat 16 255 c.callEvery
  pollEvery := clampNat 1 16 c.pollEvery
  silentLimit := clampNat 4 255 c.silentLimit
  levelMin := min (clampLevel c.levelMin) (clampLevel c.levelMax)
  levelMax := max (clampLevel c.levelMin) (clampLevel c.levelMax)
  litLevel := clampLevel c.litLevel
  darkLitMin := clampNat 1 40 c.darkLitMin
  darkRounds := clampNat 2 64 c.darkRounds
  verifyRounds := clampNat 4 64 c.verifyRounds
  scoreLimit := clampNat 8 31 c.scoreLimit
  relapseLimit := clampNat 1 7 c.relapseLimit
  claimWait := clampNat 25 2500 c.claimWait
  admitWait := clampNat 0 16777215 c.admitWait
  lostHold := clampNat 0 16777215 c.lostHold
  quenchHold := clampNat 0 16777215 c.quenchHold
  barHold := clampNat 0 16777215 c.barHold
  foreignRetry := clampNat 0 16777215 c.foreignRetry
  pickupWait := clampNat 25 2500 c.pickupWait
  confirmWait := clampNat 125 25000 c.confirmWait
  secondManager := clampNat 0 31 c.secondManager
  aliasOn := c.aliasOn

/-- The manager set that an accepted SETTINGS fills (R53). -/
def managersOf (sender second address : Nat) : List Nat :=
  if second ≤ 30 ∧ second ≠ address ∧ second ≠ sender then [sender, second] else [sender]

/-- The share until the first epoch end (R120). -/
def initialShare (c : Settings) : Nat :=
  min (chipMaxOf c.enabled) (c.capacity / Config.shelfStations)

/-- The chip enters RUNNING on the clamped settings `c` (R53, R108, R120, R122, R178). -/
def State.enterRunning (s : State) (sender : Nat) (c : Settings) : State :=
  { s with
      bus := { s.bus with
                chipState := .running
                settings := some c
                managers := managersOf sender c.secondManager s.bus.address
                helloCountdown := none }
      share := { s.share with epoch := 0, share := initialShare c }
      trees := tabulate (fun t =>
        if c.enabled.getLsbD t then { s.tree t with light := .clear 0 } else s.tree t) }

/-- A SETTINGS is accepted: it is clamped, the chip enters RUNNING, and the ACCEPTED and a last HELLO are
posted (R175, R177, R178). -/
def State.acceptSettings (s : State) (sender : Nat) (raw : Settings) : State :=
  let c := clampSettings raw
  ((s.enterRunning sender c).post .bus sender (.accepted .settings (some c))).postHello

/-- SETTINGS (R175). -/
def execSettings (sender : Nat) (raw : Settings) (s : State) : Result :=
  s.whileUp
    (let s1 := s.take (.settings sender raw)
     if s.hears sender && decide (sender ≤ 30) then
       match s.bus.chipState with
       | .waitingSettings => s1.acceptSettings sender raw
       | .running => s1.post .bus sender (.declined .settings .locked s1.bus.settings)
     else s1)

end Sys2Proof.Machine
end

