-- ==== Sys2Proof/Machine/Monitor.lean ====
section
/-! DEFINITION. Rogue light monitoring (chapter 7): what the Monitor does at a round receive end, and the
meanings of SCORE_QUENCH_REQUEST, SEARCH_QUENCH_REQUEST, UNDO_REQUEST, QUENCH_HOLD_EXPIRY and
FOREIGN_TIMER_EXPIRY. -/

namespace Sys2Proof.Machine

/-! ### FOREIGN and SEARCH (R130 to R134, R142) -/

/-- A tree enters FOREIGN: its test_dark flags are absent, an ALARM FOREIGN_LIGHT is posted and the foreign
timer starts (R142). DEDUCED: notes/assumptions/13.md. -/
def State.enterForeign (s : State) (t : TreeId) (cause : AlarmCause) : State :=
  ((s.setTestDark t (fun _ => none)).setLight t (.foreign (startTimer s.cfg.foreignRetry))).alarm
    { plainAlarm .foreignLight t s.round (some cause) with
        figure := (s.tree t).rx.lastLit.getD 0 }

/-- The test half is the first ceil(n / 2) of the candidates; the step is CHOSEN and the flags of the test
half are set (R131). -/
def State.chooseHalf (s : State) (t : TreeId) (clearStreak : Nat) (candidates : List HomeIdx) : State :=
  let half := candidates.take ((candidates.length + 1) / 2)
  (s.setTestDark t (fun h => some (half.contains h))).setLight t
    (.search { clearStreak := clearStreak, testHalf := half,
               rest := candidates.drop ((candidates.length + 1) / 2), phase := .chosen })

/-- The candidates of a search: every record that is not FREE, in ascending index (R130). -/
def State.candidates (s : State) (t : TreeId) : List HomeIdx :=
  allHomes.filter (fun h => decide ((s.record t h).state ≠ .free))

/-- A tree enters SEARCH, with an ALARM SEARCH_START; with no candidate it goes to FOREIGN at once
(R128, R130, R142). DEDUCED: notes/assumptions/13.md. -/
def State.enterSearch (s : State) (t : TreeId) (cause : AlarmCause) : State :=
  let found := s.candidates t
  let s := s.alarm { plainAlarm .searchStart t s.round (some cause) with figure := found.length }
  if found = [] then s.enterForeign t .listEmpty else s.chooseHalf t 0 found

/-- A search ends on its last candidate: the request is sent and the tree enters VERIFY (R136). -/
def State.endSearch (s : State) (t : TreeId) (h : HomeIdx) : State :=
  let generation := (s.record t h).generation
  ((s.setTestDark t (fun _ => none)).setLight t
      (.verify { home := h, generation := generation, outcome := none, startRound := none,
                 counted := 0, lit := 0, refuseNoted := false })).raise
    (.searchQuenchRequest t h generation)

/-- The judgment of a step leaves these candidates (R133). -/
def State.judged (s : State) (t : TreeId) (clearStreak : Nat) (left : List HomeIdx) : State :=
  match left with
  | [] => s.enterForeign t .listEmpty
  | [h] => s.endSearch t h
  | _ :: _ :: _ => s.chooseHalf t clearStreak left

/-- A round receive end in SEARCH that is not the test round's: the clear streak, which abandons the
search when it reaches DARK_ROUNDS (R134). -/
def State.keepClearStreak (s : State) (t : TreeId) (d : Search) (lit : Bool) : State :=
  if lit then s.setLight t (.search { d with clearStreak := 0 })
  else if s.cfg.darkRounds ≤ d.clearStreak + 1 then
    (s.setTestDark t (fun _ => none)).setLight t (.clear 0)
  else s.setLight t (.search { d with clearStreak := d.clearStreak + 1 })

/-- A round receive end in SEARCH (R132 to R134). -/
def State.searchReceiveEnd (s : State) (t : TreeId) (d : Search) (round : Nat) (lit : Bool) : State :=
  match d.phase with
  | .testing r =>
    if r = round then s.judged t d.clearStreak (if lit then d.rest else d.testHalf)
    else s.keepClearStreak t d lit
  | .void r =>
    if r = round then s.setLight t (.search { d with phase := .chosen })
    else s.keepClearStreak t d lit
  | .chosen => s.keepClearStreak t d lit

/-! ### VERIFY (R138, R139) -/

/-- The ALARM ROGUE_FOUND about a record (R137, R139, R143). -/
def State.rogueFoundAlarm (s : State) (t : TreeId) (h : HomeIdx) (cause : AlarmCause) : Alarm :=
  let r := s.record t h
  { plainAlarm .rogueFound t s.round (some cause) with
      home := h, serial := r.serial.getD 0, state := some r.state }

/-- The verification ends: it fails when twice the lit rounds reach VERIFY_ROUNDS (R139). -/
def State.endVerify (s : State) (t : TreeId) (v : Verify) : State :=
  if s.cfg.verifyRounds ≤ 2 * v.lit then
    (s.raise (.undoRequest t v.home v.generation v.outcome v.refuseNoted)).enterForeign t .verifyFailed
  else (s.alarm (s.rogueFoundAlarm t v.home .confirmed)).setLight t (.clear 0)

/-- A round receive end in VERIFY: rounds v + 1 to v + VERIFY_ROUNDS are counted, and the last ends the
verification (R138, R139). -/
def State.verifyReceiveEnd (s : State) (t : TreeId) (v : Verify) (round : Nat) (lit : Bool) : State :=
  match v.startRound with
  | none => s
  | some start =>
    let k := roundsSince start round
    if 1 ≤ k ∧ k ≤ s.cfg.verifyRounds then
      let v' := { v with counted := v.counted + 1, lit := v.lit + lit.toNat }
      if k = s.cfg.verifyRounds then s.endVerify t v' else s.setLight t (.verify v')
    else s

/-! ### The round receive end (R128, R134, R138) -/

/-- The Monitor takes the round receive end of `round` on tree `t`. -/
def State.monitorReceiveEnd (s : State) (t : TreeId) (round : Nat) (lit : Bool) : State :=
  match (s.tree t).light with
  | .clear streak =>
    if lit then
      if s.cfg.darkRounds ≤ streak + 1 then s.enterSearch t .darkStreak
      else s.setLight t (.clear (streak + 1))
    else s.setLight t (.clear 0)
  | .search d => s.searchReceiveEnd t d round lit
  | .verify v => s.verifyReceiveEnd t v round lit
  | .foreign _ | .off => s

/-- FOREIGN_TIMER_EXPIRY (R142). DESIGN CHOICE: notes/assumptions/5.md. -/
def execForeignTimerExpiry (t : TreeId) (s : State) : Result :=
  s.whileUp
    (if (s.tree t).light = .foreign 0 then
      if (match (s.tree t).rx.lastLit with
          | some n => s.isLit n
          | none => false) then s.enterSearch t .retry
      else s.setLight t (.clear 0)
    else s)

/-! ### Scores (R123 to R125) -/

/-- The score after an increase, saturating at 31 (R123). -/
def scoreUp (n : Nat) : Nat := min (n + Config.scoreStep) Config.scoreMax

/-- The rogue score of an ACTIVE record takes a new value; a crossing of SCORE_LIMIT sends one score
quench request (R123, R125). -/
def State.setScore (s : State) (t : TreeId) (h : HomeIdx) (f : Nat → Nat) : State :=
  match (s.record t h).rogueScore with
  | none => s
  | some n =>
    let s1 := s.modRecord t h (fun r => { r with rogueScore := some (f n) })
    if n < s.cfg.scoreLimit ∧ s.cfg.scoreLimit ≤ f n then
      s1.raise (.scoreQuenchRequest t h (s.record t h).generation)
    else s1

/-! ### Requests to the Controller (R125, R137, R140) -/

/-- SCORE_QUENCH_REQUEST (R125). -/
def execScoreQuenchRequest (t : TreeId) (h : HomeIdx) (generation : Nat) (s : State) : Result :=
  s.whileUp
    (let s1 := s.take (.scoreQuenchRequest t h generation)
     if s.names t h generation && decide ((s.record t h).state = .active) then
       (s1.changeState t h .quenched (s.quenchTimer t h) .scoreQuench).queueWord t (.darken h)
     else s1)

/-- The Monitor records the outcome of a search quench request in its verify data (R136). -/
def State.recordOutcome (s : State) (t : TreeId) (h : HomeIdx) (generation : Nat) (o : SearchOutcome) :
    State :=
  match (s.tree t).light with
  | .verify v =>
    if v.home = h ∧ v.generation = generation then s.setLight t (.verify { v with outcome := some o })
    else s
  | .clear _ | .search _ | .foreign _ | .off => s

/-- The Controller applies a search quench request by the state of the record (R137). -/
def State.searchQuench (s : State) (t : TreeId) (h : HomeIdx) (generation : Nat) : State :=
  let r := s.record t h
  match r.state with
  | .active | .lost =>
    (((s.changeState t h .quenched (s.quenchTimer t h) .searchQuench).queueWord t (.darken h)).recordOutcome
      t h generation (.moved r.state r.relapses)).alarmRelapseLimit t h
  | .claiming | .awaiting =>
    ((s.changeState t h .barred (some (startTimer s.cfg.barHold)) .searchBar).queueWord
      t (.darken h)).recordOutcome t h generation (.moved r.state r.relapses)
  | .quenched =>
    let s1 := (s.modRecord t h (fun r =>
        { r with stateTimer := none, relapses := some s.cfg.relapseLimit })).queueWord t (.darken h)
    (s1.recordOutcome t h generation (.held .quenched r.relapses)).alarm
      (s1.rogueFoundAlarm t h .ignoringDarken)
  | .barred =>
    ((s.queueWord t (.darken h)).recordOutcome t h generation (.held .barred r.relapses)).alarm
      (s.rogueFoundAlarm t h .ignoringDarken)
  | .free => s

/-- SEARCH_QUENCH_REQUEST (R137). -/
def execSearchQuenchRequest (t : TreeId) (h : HomeIdx) (generation : Nat) (s : State) : Result :=
  s.whileUp
    (let s1 := s.take (.searchQuenchRequest t h generation)
     if s.names t h generation then s1.searchQuench t h generation else s1)

/-- The Controller restores what a search outcome did, by the record's present state (R140).
DESIGN CHOICE: notes/assumptions/18.md. -/
def State.undo (s : State) (t : TreeId) (h : HomeIdx) (outcome : SearchOutcome) : State :=
  match outcome, (s.record t h).state with
  | .moved .active prior, .quenched | .moved .lost prior, .quenched =>
    (s.changeState t h .active none (.undo prior)).queueWord t (.light h)
  | .moved .claiming prior, .barred =>
    (s.changeState t h .claiming (some (startTimer s.cfg.claimWait)) (.undo prior)).queueWord t (.light h)
  | .moved .awaiting prior, .barred =>
    (s.changeState t h .awaiting (some (startTimer s.cfg.admitWait)) (.undo prior)).queueWord t (.light h)
  | .held .quenched prior, .quenched =>
    s.modRecord t h (fun r =>
      { r with
          relapses := r.relapses.map (fun n => prior.getD n)
          stateTimer := if prior.getD 0 < s.cfg.relapseLimit then some (startTimer s.cfg.quenchHold)
            else r.stateTimer })
  | _, _ => s

/-- UNDO_REQUEST: a request that carries a noted REFUSE is ignored (R140). -/
def execUndoRequest (t : TreeId) (h : HomeIdx) (generation : Nat) (outcome : Option SearchOutcome)
    (refuseNoted : Bool) (s : State) : Result :=
  s.whileUp
    (let s1 := s.take (.undoRequest t h generation outcome refuseNoted)
     if s.names t h generation && !refuseNoted then
       match outcome with
       | some o => s1.undo t h o
       | none => s1
     else s1)

/-- QUENCH_HOLD_EXPIRY (R127). -/
def execQuenchHoldExpiry (t : TreeId) (h : HomeIdx) (s : State) : Result :=
  s.whileUp
    (if s.expired t h .quenched then
      (s.changeState t h .active none .holdEnd).queueWord t (.light h)
    else s)

end Sys2Proof.Machine
end

