-- ==== Sys2Proof/Machine/Trees.lean ====
section
/-! DEFINITION. The tree side (chapter 1): the meanings of ROUND_HEADER, ROUND_RECEIVE_END, ARRIVAL,
DOWNSTREAM_FRAME and TAKEN_FRAME_SENT. -/

namespace Sys2Proof.Machine

/-! ### The round header (R5, R6, R8, R10, R11, R13, R138) -/

/-- The empty plan for a round (R5). -/
def emptyPlan (round : Nat) : Plan := { round := round, grants := [], call := false }

/-- The plan that the next header carries: the pending plan for `round`, or an empty one (R3, R5). -/
def Transmitter.planFor (tx : Transmitter) (round : Nat) : Plan :=
  (tx.pendingPlans.find? (fun p => decide (p.round = round))).getD (emptyPlan round)

/-- The TEST-DARK that belongs to the map of `round` (R10). -/
def ControlWord.testDarkFor (round : Nat) : ControlWord → Bool
  | .testDark r _ => decide (r = round)
  | .setDelay _ _ _ | .darken _ | .light _ | .dismiss _ | .dismissAll => false

/-- A PRIORITY word that any header may carry: every one but a TEST-DARK (R8, R10). -/
def ControlWord.freePriority : ControlWord → Bool
  | .darken _ | .light _ | .dismissAll => true
  | .testDark _ _ | .setDelay _ _ _ | .dismiss _ => false

/-- The words that the header carrying the map of `round` takes: the TEST-DARK of that map, PRIORITY
words, ORDINARY words, oldest first, at most 16 (R8, R10). -/
def wordsFor (round : Nat) (words : List ControlWord) : List ControlWord :=
  (words.filter (ControlWord.testDarkFor round) ++ words.filter ControlWord.freePriority
    ++ words.filter ControlWord.ordinary).take Config.wordsPerHeader

/-- How many words of the words a header takes satisfy `p`. -/
def takenOf (p : ControlWord → Bool) (round : Nat) (words : List ControlWord) : Nat :=
  (wordsFor round words).countP p

/-- The words that stay queued (R8). -/
def wordsLeft (round : Nat) (words : List ControlWord) : List ControlWord :=
  dropOldest (ControlWord.testDarkFor round) (takenOf (ControlWord.testDarkFor round) round words)
    (dropOldest ControlWord.freePriority (takenOf ControlWord.freePriority round words)
      (dropOldest ControlWord.ordinary (takenOf ControlWord.ordinary round words) words))

/-- The first header in VERIFY that carries a DARKEN for the verified index sets the start round
(R138). -/
def Light.afterHeader (light : Light) (round : Nat) (words : List ControlWord) : Light :=
  match light with
  | .verify v =>
    if v.startRound = none ∧ ControlWord.darken v.home ∈ words then
      .verify { v with startRound := some round }
    else .verify v
  | .clear _ | .search _ | .foreign _ | .off => light

/-- The word by which the Transmitter renews what holds a home to its record's state (R11). -/
def refreshWord (state : RecordState) (h : HomeIdx) : Option ControlWord :=
  match state with
  | .quenched | .barred => some (.darken h)
  | .active => some (.light h)
  | .free => some (.dismiss h)
  | .claiming | .awaiting | .lost => none

/-- The refresh word of one visited index is queued, if its record calls for one (R11). -/
def State.refresh (s : State) (t : TreeId) (h : HomeIdx) : State :=
  match refreshWord (s.record t h).state h with
  | some w => s.queueWord t w
  | none => s

/-- The first of the two indices visited in round `m` (R11). -/
def refreshIndex (m k : Nat) : HomeIdx := Fin.ofNat 128 (2 * (m % Config.refreshCycle) + k)

/-- The header of tree `t` for the present round is sent (R5, R6, R8, R10, R13, R138).
DESIGN CHOICE: notes/assumptions/14.md. -/
def State.sendHeader (s : State) (t : TreeId) : State :=
  let tr := s.tree t
  let covered := roundAdd s.round 1
  let plan := tr.tx.planFor covered
  let words := wordsFor covered tr.tx.words
  let bytes := headerBytes s.round plan words
  (s.modTree t (fun tr =>
    { tr with
        tx := { tr.tx with
                  words := wordsLeft covered tr.tx.words
                  pendingPlans := tr.tx.pendingPlans.filter (fun p => !decide (p.round = covered))
                  sentPlan := some plan
                  lineRoom := Config.downstreamBytes - bytes.length }
        rx := { tr.rx with awaiting := keepYoungest 2 (tr.rx.awaiting ++ [plan]) }
        light := tr.light.afterHeader covered words
        headerDue := false })).emit (.header t bytes)

/-- ROUND_HEADER: the header, and then the refresh of two indices (R5, R11).
DESIGN CHOICE: notes/assumptions/5.md. -/
def execRoundHeader (t : TreeId) (s : State) : Result :=
  s.whileUp
    (if (s.tree t).headerDue && s.enabled t then
      ((s.sendHeader t).refresh t (refreshIndex s.round 0)).refresh t (refreshIndex s.round 1)
    else s)

/-! ### Block 1600 (R13, R20) -/

/-- The open window closes, and the round receive end is raised to the Monitor and the Meter (R13,
R20).  R18 lets every grant settle before: a grant that no ARRIVAL command has settled by now gets no
outcome and no arrival.  DESIGN CHOICE: notes/assumptions/25.md. -/
def State.closeWindow (s : State) (t : TreeId) (levels : List Int) : State :=
  match (s.tree t).rx.window with
  | none => s
  | some w =>
    let count := w.litCount s.cfg.litLevel levels
    ((s.modTree t (fun tr => { tr with rx := { tr.rx with window := none, lastLit := some count } })).monitorReceiveEnd
        t w.plan.round (s.isLit count)).meterReceiveEnd t w.plan.round

/-- The window of a plan, as it opens (R13, R19, R21). -/
def Window.opened (p : Plan) : Window :=
  { plan := p, headers := [], settled := 0, lit := 0, testSpans := [], replyStep := 0,
    replyBlind := false }

/-- The plan for the present round, if it awaits its window, becomes the window plan (R13). -/
def State.openWindow (s : State) (t : TreeId) : State :=
  s.modTree t (fun tr =>
    match tr.rx.awaiting.find? (fun p => decide (p.round = s.round)) with
    | some p =>
      { tr with rx := { tr.rx with window := some (.opened p), awaiting := tr.rx.awaiting.erase p } }
    | none => tr)

/-- ROUND_RECEIVE_END: block 1600 of the present round on an enabled tree (R13, R20).
DESIGN CHOICE: notes/assumptions/8.md. -/
def execRoundReceiveEnd (t : TreeId) (levels : List Int) (s : State) : Result :=
  s.whileUp
    (if (s.tree t).receiveDue && s.enabled t then
      ((s.closeWindow t levels).openWindow t).modTree t (fun tr => { tr with receiveDue := false })
    else s)

/-! ### Arrivals (R18, R22, R30, R32, R33, R83, R90, R123, R124, R146) -/

/-- The upstream discard counter of a tree gains 1 (R22). -/
def State.discardUp (s : State) (t : TreeId) : State :=
  s.modTree t (fun tr => { tr with upDiscards := bump tr.upDiscards })

/-- The Uplink Port takes a burst that is not stale (R22). -/
def State.uplink (s : State) (a : ArrivalRecord) (payload : List Byte) : State :=
  match a.outcome with
  | .good _ _ _ _ _ used =>
    if used = 0 then s else s.emit (.upstream a.tree a.home (payload.take used))
  | .wrongHome _ _ => s.discardUp a.tree
  | .garbled _ | .silent => s

/-- last_level takes the level of an arrival that carries one (R30). -/
def State.keepLevel (s : State) (a : ArrivalRecord) : State :=
  match a.outcome.level? with
  | some level => s.modRecord a.tree a.home (fun r => { r with lastLevel := some level })
  | none => s

/-- The silence of an ACTIVE record (R32), and its loss at SILENT_LIMIT (R33). -/
def State.keepSilence (s : State) (a : ArrivalRecord) : State :=
  let r := s.record a.tree a.home
  if r.state = .active then
    if a.outcome.isGood then s.modRecord a.tree a.home (fun r => { r with silence := some 0 })
    else
      let silent := r.silence.getD 0 + 1
      if s.cfg.silentLimit ≤ silent then
        s.changeState a.tree a.home .lost (some (startTimer s.cfg.lostHold)) .lost
      else s.modRecord a.tree a.home (fun r => { r with silence := some silent })
  else s

/-- The delay after a re-trim by an offset (R83). -/
def trimmedDelay (eqd : Nat) (offset : Int) : Nat :=
  (max 0 (min ((eqd : Int) - offset) Config.referenceTrip)).toNat

/-- An ACTIVE record is re-trimmed by an offset: its delay, a SET-DELAY, and the trim hold (R83). -/
def State.retrimBy (s : State) (t : TreeId) (h : HomeIdx) (offset : Int) : State :=
  let r := s.record t h
  let eqd := trimmedDelay (r.eqd.getD 0) offset
  (s.modHome t h (fun x =>
    { x with record := { x.record with eqd := some eqd, rtt := some (Config.referenceTrip - eqd) },
             trimHold := some Config.trimHoldRounds })).queueWord
    t (.setDelay h (r.serial.getD 0) eqd)

/-- The re-trim of a DRIFTED or MISPLACED arrival of an ACTIVE record outside its trim hold (R83,
R84). -/
def State.retrim (s : State) (a : ArrivalRecord) : State :=
  match a.outcome with
  | .good timing _ offset _ _ _ =>
    if timing ≠ .arrived ∧ (s.record a.tree a.home).state = .active
        ∧ (s.home a.tree a.home).trimHold.getD 0 = 0 then s.retrimBy a.tree a.home offset
    else s
  | .wrongHome _ _ | .garbled _ | .silent => s

/-- The Planner's report slot takes the backlog report of a header-good burst of an ACTIVE record
(R90). -/
def State.keepReport (s : State) (a : ArrivalRecord) : State :=
  match a.outcome with
  | .good _ _ _ _ backlog _ =>
    if (s.record a.tree a.home).state = .active then
      s.modHome a.tree a.home (fun x => { x with reportSlot := some backlog })
    else s
  | .wrongHome _ _ | .garbled _ | .silent => s

/-- The Monitor scores an arrival: the granted home (R123), or the home that a WRONG-HOME header names
(R124). DEDUCED: notes/assumptions/10.md. -/
def State.scoreArrival (s : State) (a : ArrivalRecord) : State :=
  match a.outcome with
  | .good timing overrun _ _ _ _ =>
    s.setScore a.tree a.home
      (if timing = .misplaced ∨ overrun = true then scoreUp else fun n => n - 1)
  | .wrongHome named _ =>
    if hn : named < 128 then s.setScore a.tree ⟨named, hn⟩ scoreUp else s
  | .garbled _ | .silent => s

/-- The Meter counts the bytes used of a header-good burst of a tiered record (R146). -/
def State.meterArrival (s : State) (a : ArrivalRecord) : State :=
  match a.outcome with
  | .good _ _ _ _ _ used => s.countUp a.tree a.home used
  | .wrongHome _ _ | .garbled _ | .silent => s

/-- An arrival is stale: its record is FREE or of another generation (R18). -/
def State.staleArrival (s : State) (a : ArrivalRecord) : Bool :=
  decide ((s.record a.tree a.home).state = .free)
    || decide ((s.record a.tree a.home).generation ≠ a.generation)

/-- The arrival event: a stale record is discarded and counted, any other is handed to the Uplink Port,
the Controller, the Planner, the Monitor and the Meter (R18). -/
def State.takeArrival (s : State) (a : ArrivalRecord) (payload : List Byte) : State :=
  if s.staleArrival a then s.discardUp a.tree
  else
    (((((s.uplink a payload).keepLevel a).keepSilence a).retrim a).keepReport a).scoreArrival a
      |>.meterArrival a

/-- The next unsettled grant of an open window (R18). -/
def Window.nextGrant (w : Window) : Option Grant := w.plan.grants[w.settled]?

/-- The arrival record that the Receiver makes of the next grant, and the window after it (R14 to
R18). -/
def Window.settle (w : Window) (litLevel : Int) (t : TreeId) (g : Grant) (light : BurstLight) :
    Window × ArrivalRecord :=
  let found := w.headers ++ light.headers
  let settled := settleGrant litLevel w.plan g found light
  ({ w with headers := found, settled := w.settled + 1,
            testSpans := w.testSpans ++ settled.2.toList },
    { round := w.plan.round, tree := t, home := g.home, generation := g.generation,
      outcome := settled.1 })

def State.setWindow (s : State) (t : TreeId) (w : Window) : State :=
  s.modTree t (fun tr => { tr with rx := { tr.rx with window := some w } })

/-- ARRIVAL: with no open window, or no grant of it left to settle, there is no arrival event (R18). -/
def execArrival (t : TreeId) (light : BurstLight) (s : State) : Result :=
  s.whileUp
    (match (s.tree t).rx.window with
     | none => s
     | some w =>
       match w.nextGrant with
       | none => s
       | some g =>
         let settled := w.settle s.cfg.litLevel t g light
         (s.setWindow t settled.1).takeArrival settled.2 light.payload)

/-! ### Downstream frames (R23) -/

/-- A frame offered now would be delivered (R23). -/
def State.delivers (s : State) (t : TreeId) (h : HomeIdx) (frame : List Byte) : Bool :=
  s.enabled t
    && (decide ((s.record t h).state = .active) || decide ((s.record t h).state = .quenched))
    && decide (frame.length ≤ Config.frameMax)

/-- DOWNSTREAM_FRAME: the frame is taken and metered, or discarded and counted; while the Transmitter
holds 64 frames it is held back at the port (R23). DESIGN CHOICE: notes/assumptions/14.md. -/
def execDownstreamFrame (t : TreeId) (h : HomeIdx) (frame : List Byte) (s : State) : Result :=
  s.whileUp
    (if Config.takenPlaces ≤ (s.tree t).tx.taken.length then s
     else if s.delivers t h frame then
       (s.modTree t (fun tr =>
         { tr with tx := { tr.tx with taken := tr.tx.taken ++ [TakenFrame.mk h frame] } })).countDown
         t h frame.length
     else s.modTree t (fun tr => { tr with downDiscards := bump tr.downDiscards }))

/-- TAKEN_FRAME_SENT: the oldest taken frame goes out if it fits the room that the round has left;
otherwise it waits whole (R23). DESIGN CHOICE: notes/assumptions/14.md. -/
def execTakenFrameSent (t : TreeId) (s : State) : Result :=
  s.whileUp
    (match (s.tree t).tx.taken with
     | [] => s
     | f :: rest =>
       if f.bytes.length ≤ (s.tree t).tx.lineRoom then
         (s.modTree t (fun tr =>
           { tr with tx := { tr.tx with taken := rest,
                                        lineRoom := tr.tx.lineRoom - f.bytes.length } })).emit
           (.downstream t f.home f.bytes)
       else s)

end Sys2Proof.Machine
end

