-- ==== Sys2Proof/Machine/Dispatch.lean ====
section
/-! DEFINITION. One arm per command of spec/opcode_table.json, each a direct call of its meaning. -/

namespace Sys2Proof.Machine

def exec (i : Instr) (s : State) : Host.Outcome State Fault Refusal :=
  match i with
  | .powerOnReset => Sys2Proof.Machine.execPowerOnReset s
  | .pinReset => Sys2Proof.Machine.execPinReset s
  | .resetEnd straps => Sys2Proof.Machine.execResetEnd straps s
  | .roundOpening => Sys2Proof.Machine.execRoundOpening s
  | .planBuild => Sys2Proof.Machine.execPlanBuild s
  | .roundHeader t => Sys2Proof.Machine.execRoundHeader t s
  | .roundReceiveEnd t levels => Sys2Proof.Machine.execRoundReceiveEnd t levels s
  | .arrival t light => Sys2Proof.Machine.execArrival t light s
  | .discoveryReply t light => Sys2Proof.Machine.execDiscoveryReply t light s
  | .downstreamFrame t h frame => Sys2Proof.Machine.execDownstreamFrame t h frame s
  | .lineIdle => Sys2Proof.Machine.execLineIdle s
  | .contentionLost => Sys2Proof.Machine.execContentionLost s
  | .addressClashSending => Sys2Proof.Machine.execAddressClashSending s
  | .frameSent => Sys2Proof.Machine.execFrameSent s
  | .frameReceived bits => Sys2Proof.Machine.execFrameReceived bits s
  | .settings sender raw => Sys2Proof.Machine.execSettings sender raw s
  | .queryChip sender q => Sys2Proof.Machine.execQueryChip sender q s
  | .queryTree sender q => Sys2Proof.Machine.execQueryTree sender q s
  | .queryHome sender q => Sys2Proof.Machine.execQueryHome sender q s
  | .admission sender serial tier quota => Sys2Proof.Machine.execAdmit sender serial tier quota s
  | .refuse sender serial => Sys2Proof.Machine.execRefuse sender serial s
  | .release sender serial => Sys2Proof.Machine.execRelease sender serial s
  | .dismiss sender serial => Sys2Proof.Machine.execDismiss sender serial s
  | .restart sender tree => Sys2Proof.Machine.execRestart sender tree s
  | .read sender kind tree first count => Sys2Proof.Machine.execRead sender kind tree first count s
  | .confirm sender tag => Sys2Proof.Machine.execConfirm sender tag s
  | .claimReceived peer serial tree index => Sys2Proof.Machine.execClaimReceived peer serial tree index s
  | .objectReceived peer serial tree index => Sys2Proof.Machine.execObjectReceived peer serial tree index s
  | .demandReceived peer committed excess homes => Sys2Proof.Machine.execDemandReceived peer committed excess homes s
  | .claimSentReport t h generation => Sys2Proof.Machine.execClaimSentReport t h generation s
  | .claimDroppedReport t h generation => Sys2Proof.Machine.execClaimDroppedReport t h generation s
  | .scoreQuenchRequest t h generation => Sys2Proof.Machine.execScoreQuenchRequest t h generation s
  | .searchQuenchRequest t h generation => Sys2Proof.Machine.execSearchQuenchRequest t h generation s
  | .undoRequest t h generation outcome refuseNoted => Sys2Proof.Machine.execUndoRequest t h generation outcome refuseNoted s
  | .claimWaitExpiry t h => Sys2Proof.Machine.execClaimWaitExpiry t h s
  | .admitWaitExpiry t h => Sys2Proof.Machine.execAdmitWaitExpiry t h s
  | .barHoldExpiry t h => Sys2Proof.Machine.execBarHoldExpiry t h s
  | .lostHoldExpiry t h => Sys2Proof.Machine.execLostHoldExpiry t h s
  | .quenchHoldExpiry t h => Sys2Proof.Machine.execQuenchHoldExpiry t h s
  | .trimHoldEnd t h => Sys2Proof.Machine.execTrimHoldEnd t h s
  | .foreignTimerExpiry t => Sys2Proof.Machine.execForeignTimerExpiry t s
  | .epochEnd => Sys2Proof.Machine.execEpochEnd s
  | .pickupWaitExpiry tag => Sys2Proof.Machine.execPickupWaitExpiry tag s
  | .confirmWaitExpiry tag => Sys2Proof.Machine.execConfirmWaitExpiry tag s
  | .helloCountdownExpiry => Sys2Proof.Machine.execHelloCountdownExpiry s
  | .takenFrameSent t => Sys2Proof.Machine.execTakenFrameSent t s

end Sys2Proof.Machine
end

