-- ==== Sys2Proof/Safety.lean ====
section
/-! DEFINITION. What the claims are stated in: what a command leaves alone, and what every state of a
run keeps. -/

namespace Sys2Proof.Machine

/-! ### What a command leaves alone -/

/-- The clock, its due events and the model's queue of waiting commands stand. -/
def State.sameClock (s t : State) : Prop :=
  t.pending = s.pending ∧ t.inReset = s.inReset ∧ t.round = s.round ∧ t.buildDue = s.buildDue
    ∧ t.epochDue = s.epochDue

/-- The Interface's values stand, apart from its transmit queue and its counters. -/
def Bus.sameStation (a b : Bus) : Prop :=
  b.chipState = a.chipState ∧ b.resetCause = a.resetCause ∧ b.address = a.address
    ∧ b.settings = a.settings ∧ b.managers = a.managers ∧ b.helloCountdown = a.helloCountdown
    ∧ b.lineSeen = a.lineSeen ∧ b.clashFrame = a.clashFrame

/-- The chip-wide values stand: clock, station, share and tree pointer. -/
def State.sameChip (s t : State) : Prop :=
  s.sameClock t ∧ s.bus.sameStation t.bus ∧ t.share = s.share ∧ t.treePointer = s.treePointer

/-- A tree's values stand, apart from its homes, its Transmitter and its light state. -/
def Tree.sameLine (a b : Tree) : Prop :=
  b.rx = a.rx ∧ b.enrol = a.enrol ∧ b.homePointer = a.homePointer ∧ b.marks = a.marks
    ∧ b.upDiscards = a.upDiscards ∧ b.downDiscards = a.downDiscards ∧ b.headerDue = a.headerDue
    ∧ b.receiveDue = a.receiveDue

/-- Of all homes and trees, only home `h` of tree `u`, that tree's Transmitter and its light state may
differ; the chip-wide values stand. -/
def State.onlyHome (s t : State) (u : TreeId) (h : HomeIdx) : Prop :=
  s.sameChip t ∧ (∀ v, v ≠ u → t.tree v = s.tree v) ∧ (s.tree u).sameLine (t.tree u)
    ∧ ∀ k, k ≠ h → t.home u k = s.home u k

/-- The trees, the serial index and the Meter stand, and so do the chip-wide values: only messages were
posted. -/
def State.onlyPosts (s t : State) : Prop :=
  s.sameChip t ∧ t.trees = s.trees ∧ t.serialIndex = s.serialIndex ∧ t.meter = s.meter

/-- `t` has the traffic of `r`: the same Interface, the same requests and reports in flight, the same
outputs. -/
def State.sameTraffic (r t : State) : Prop :=
  t.bus = r.bus ∧ t.inFlight = r.inFlight ∧ t.outputs = r.outputs

/-! ### What a record change notice does to a light state (R135, R141) -/

/-- The tree is in SEARCH. -/
def Light.isSearch : Light → Bool
  | .search _ => true
  | .clear _ | .verify _ | .foreign _ | .off => false

/-- The light state after the notice that home `h`, whose record holds `generation`, goes to `new` by
`cause`. -/
def Light.afterNotice (l : Light) (h : HomeIdx) (generation : Nat) (new : RecordState) (cause : Cause) :
    Light :=
  match l with
  | .search d =>
    if new = .free ∨ cause = .scoreQuench then
      .search { d with testHalf := d.testHalf.filter (· ≠ h), rest := d.rest.filter (· ≠ h) }
    else l
  | .verify v =>
    if v.home = h ∧ v.generation = generation then
      if new = .free ∨ (new = .active ∧ (cause = .release ∨ cause = .holdEnd)) then .clear 0
      else if cause = .refuse then .verify { v with refuseNoted := true }
      else l
    else l
  | .clear _ | .foreign _ | .off => l

/-- The test_dark field of home `h` after that notice. -/
def darkAfterNotice (l : Light) (new : RecordState) (cause : Cause) (dark : Option Bool) : Option Bool :=
  if l.isSearch && (decide (new = .free) || decide (cause = .scoreQuench)) then
    dark.map (fun _ => false)
  else dark

/-- The light state after the outcome of a search quench request is recorded in its verify data
(R136). -/
def Light.withOutcome (l : Light) (h : HomeIdx) (generation : Nat) (o : SearchOutcome) : Light :=
  match l with
  | .verify v => if v.home = h ∧ v.generation = generation then .verify { v with outcome := some o } else l
  | .clear _ | .search _ | .foreign _ | .off => l

/-- The state in which a search outcome left a record that an undo restores (R140). -/
def stateLeftBy : SearchOutcome → Option RecordState
  | .moved .active _ | .moved .lost _ | .held .quenched _ => some .quenched
  | .moved .claiming _ | .moved .awaiting _ => some .barred
  | .moved .free _ | .moved .quenched _ | .moved .barred _ => none
  | .held .free _ | .held .claiming _ | .held .awaiting _ | .held .active _ | .held .barred _
  | .held .lost _ => none

/-- Of the trees, only tree `t` may differ, and of it only its light state and the test_dark fields of
its records; the chip-wide values, the serial index and the Meter stand. -/
def State.onlyWatch (s u : State) (t : TreeId) : Prop :=
  s.sameChip u ∧ u.serialIndex = s.serialIndex ∧ u.meter = s.meter
    ∧ (∀ v, v ≠ t → u.tree v = s.tree v) ∧ (s.tree t).sameLine (u.tree t)
    ∧ (u.tree t).tx = (s.tree t).tx

/-! ### The departed hand-off (R41, R154) -/

/-- The departed record that a usage entry leaves (R154). -/
def State.departedOf (s : State) (t : TreeId) (h : HomeIdx) (reason : DepartedReason) (x : UsageEntry) :
    DepartedRecord where
  serial := (s.record t h).serial.getD 0
  tree := t
  home := h
  generation := (s.record t h).generation
  reason := reason
  interval := x.interval
  counters := x.counters
  mark := none

/-- The Meter after the hand-off that a record owes on leaving the tiered states (R41). -/
def State.meterAfterHandOff (s : State) (t : TreeId) (h : HomeIdx) (reason : DepartedReason) : Meter :=
  if isTiered (s.record t h).state then
    match (s.home t h).usage with
    | some x => s.meter.append (s.departedOf t h reason x)
    | none => s.meter
  else s.meter

/-- A home outside the tiered states keeps no usage entry of its own from before (R145). -/
def State.usageAfterHandOff (s : State) (t : TreeId) (h : HomeIdx) : Option UsageEntry :=
  if isTiered (s.record t h).state then none else (s.home t h).usage

/-- A record taken to FREE: the generation stands, the test_dark field is the Monitor's, and every other
field is absent (R28). -/
def HomeRecord.emptied (r : HomeRecord) (dark : Option Bool) : HomeRecord :=
  { HomeRecord.reset with generation := r.generation, testDark := dark }

/-- Home `h` of tree `t` is freed by `cause`: its record is emptied, the hand-off it owes is made with
`reason`, the serial index loses it, and a DISMISS for it is queued (R28, R31, R35, R41). -/
def State.freed (s u : State) (t : TreeId) (h : HomeIdx) (reason : DepartedReason) (cause : Cause) :
    Prop :=
  u.home t h =
      { record := (s.record t h).emptied
          (darkAfterNotice (s.tree t).light .free cause (s.record t h).testDark)
        reportSlot := none, trimHold := none, usage := s.usageAfterHandOff t h }
    ∧ u.meter = s.meterAfterHandOff t h reason
    ∧ (u.tree t).tx = ((s.tree t).tx.push (.dismiss h)).1
    ∧ (u.tree t).light = (s.tree t).light.afterNotice h (s.record t h).generation .free cause
    ∧ u.serialIndex = s.serialIndex.filter (fun e => !(decide (e.tree = t) && decide (e.home = h)))
    ∧ s.onlyHome u t h

/-- Home `h` of tree `t` goes to a state by `cause` with the record given: its report slot and trim hold
are emptied, the word given is queued, and its usage, the Meter and the serial index stand. -/
def State.entered (s u : State) (t : TreeId) (h : HomeIdx) (r : HomeRecord) (cause : Cause)
    (word : ControlWord) : Prop :=
  u.home t h = { record := r, reportSlot := none, trimHold := none, usage := (s.home t h).usage }
    ∧ u.meter = s.meter
    ∧ (u.tree t).tx = ((s.tree t).tx.push word).1
    ∧ (u.tree t).light = (s.tree t).light.afterNotice h (s.record t h).generation r.state cause
    ∧ u.serialIndex = s.serialIndex
    ∧ s.onlyHome u t h

/-- The fields of a record that has just become ACTIVE from a state in which its other fields are those
of `r` (R28). -/
def HomeRecord.activated (r : HomeRecord) : HomeRecord :=
  { r with state := .active, stateTimer := none, silence := some 0, backlog := some 0
           pollCountdown := some 0, rogueScore := some 0 }

/-- The fields of a record that has just left ACTIVE, or has never been in it, and stands in the tiered
state or the state CLAIMING, AWAITING or BARRED given, with the timer given (R28). -/
def HomeRecord.standing (r : HomeRecord) (state : RecordState) (timer : Option Nat) : HomeRecord :=
  { r with state := state, stateTimer := timer, silence := none, backlog := none
           pollCountdown := none, rogueScore := none }

/-- The fields of a record that has just come to CLAIMING, AWAITING or BARRED, which hold no tier
(R28). -/
def HomeRecord.untiered (r : HomeRecord) (state : RecordState) (timer : Option Nat) : HomeRecord :=
  { r.standing state timer with tier := none, quota := none, throttled := none, relapses := none }

/-- Only fields of home `h`'s record on tree `t` change, to those of `r`, with nothing queued to a home
and nothing handed to another block. -/
def State.recordOnly (s u : State) (t : TreeId) (h : HomeIdx) (r : HomeRecord) : Prop :=
  u.home t h = { s.home t h with record := r }
    ∧ u.meter = s.meter ∧ (u.tree t).tx = (s.tree t).tx ∧ (u.tree t).light = (s.tree t).light
    ∧ u.serialIndex = s.serialIndex ∧ s.onlyHome u t h

/-- The Receiver's open window of a tree stands where reading it has brought it (R21). -/
def State.readTo (s : State) (t : TreeId) (w : Window) : State :=
  s.modTree t (fun tr => { tr with rx := { tr.rx with window := some w } })

/-- Only a tree's reply counters change (R85). -/
def State.counted (s : State) (t : TreeId) (e : EnrolFigures) : State :=
  s.modTree t (fun tr => { tr with enrol := e })

/-! ### Settings (R176) -/

/-- The settings that are plain numbers, with the bounds of their ranges (R176). -/
def settingRanges : List ((Settings → Nat) × Nat × Nat) :=
  [(Settings.capacity, 1000, 255000), (Settings.admitCap, 500, 3900), (Settings.unitExp, 6, 16),
    (Settings.callEvery, 16, 255), (Settings.pollEvery, 1, 16), (Settings.silentLimit, 4, 255),
    (Settings.darkLitMin, 1, 40), (Settings.darkRounds, 2, 64), (Settings.verifyRounds, 4, 64),
    (Settings.scoreLimit, 8, 31), (Settings.relapseLimit, 1, 7), (Settings.claimWait, 25, 2500),
    (Settings.admitWait, 0, 16777215), (Settings.lostHold, 0, 16777215),
    (Settings.quenchHold, 0, 16777215), (Settings.barHold, 0, 16777215),
    (Settings.foreignRetry, 0, 16777215), (Settings.pickupWait, 25, 2500),
    (Settings.confirmWait, 125, 25000), (Settings.secondManager, 0, 31)]

/-- Every setting is within its range (R176). -/
def settingsInRange (c : Settings) : Prop :=
  c.enabled ≠ 0
    ∧ (∀ p ∈ settingRanges, p.2.1 ≤ p.1 c ∧ p.1 c ≤ p.2.2)
    ∧ (∀ k : Fin 8, (c.tiers.get k).cr ≤ 2000 ∧ (c.tiers.get k).cr ≤ (c.tiers.get k).pr
        ∧ (c.tiers.get k).pr ≤ 3000)
    ∧ -400 ≤ c.levelMin ∧ c.levelMin ≤ c.levelMax ∧ c.levelMax ≤ -50
    ∧ -400 ≤ c.litLevel ∧ c.litLevel ≤ -50

/-! ### Layouts (R181) -/

/-- The bytes carry the fields given, each as its length in bytes and its value, in their order and with
nothing after them: most significant byte first, a value that does not fit its field by what is left of
it modulo the field's size. -/
def laidOut : List Byte → List (Nat × Nat) → Prop
  | bytes, [] => bytes = []
  | bytes, (len, value) :: fields =>
    len ≤ bytes.length ∧ natOfBytes (bytes.take len) = value % 256 ^ len ∧ laidOut (bytes.drop len) fields

/-! ### The restart of a tree (R43, R157, R170) -/

/-- The Meter after the hand-offs of a tree's tiered records, in ascending index order. -/
def State.meterAfterHandOffs (s : State) (t : TreeId) (reason : DepartedReason) : Meter :=
  allHomes.foldl (fun m h =>
    if isTiered (s.record t h).state then
      match (s.home t h).usage with
      | some x => m.append (s.departedOf t h reason x)
      | none => m
    else m) s.meter

/-- A cut record whose home is gone is merged back onto the departed list (R169). -/
def Meter.keepMerged (m : Meter) : SnapshotRecord → Meter
  | .taken serial t h generation interval counters =>
    m.append { serial := serial, tree := t, home := h, generation := generation, reason := .merged,
               interval := interval, counters := counters, mark := none }
  | .heldElsewhere _ _ _ _ _ | .empty _ _ _ => m

/-- What a restart of tree `t` does with a readout: a PREPARING one of the tree is freed, a READY one is
merged back, any other stands (R170). -/
def Meter.endReadout (t : TreeId) (m : Meter) (e : Readout) : Meter :=
  match e.range, e.state with
  | .usage u _, .preparing => if u = t then m.free e.tag else m
  | .usage u _, .ready => if u = t then (e.snapshot.foldl Meter.keepMerged m).free e.tag else m
  | .usage _ _, .delivered | .departed, _ => m

/-- The tree that a snapshot record names. -/
def snapshotTree : SnapshotRecord → TreeId
  | .taken _ t _ _ _ _ | .heldElsewhere _ t _ _ _ | .empty t _ _ => t

/-- The home index that a snapshot record names. -/
def snapshotHome : SnapshotRecord → HomeIdx
  | .taken _ _ h _ _ _ | .heldElsewhere _ _ h _ _ | .empty _ h _ => h

/-- Every snapshot holds records of its own readout's tree only. -/
def State.snapshotsStand (s : State) : Prop :=
  ∀ e ∈ s.meter.readouts, ∀ t first, e.range = .usage t first →
    ∀ r ∈ e.snapshot, snapshotTree r = t

/-! ### Plans (chapter 5) -/

/-- The payload blocks that a plan grants. -/
def Plan.payload (p : Plan) : Nat := (p.grants.map Grant.payload).sum

/-- The plan that a Transmitter was handed last. -/
def State.lastPlan (s : State) (t : TreeId) : Plan :=
  (s.tree t).tx.pendingPlans.getLastD { round := 0, grants := [], call := false }

/-- A home is to be served by a build (R94): ACTIVE, not test-dark, and with a whole demand above 0 or a
poll countdown of 0. -/
def State.toServe (s : State) (t : TreeId) (h : HomeIdx) : Prop :=
  (s.record t h).state = .active ∧ (s.record t h).testDark ≠ some true
    ∧ (0 < s.wholeOf (s.record t h) ∨ (s.record t h).pollCountdown.getD 0 = 0)

/-! ### The Meter (chapters 8 and 9) -/

/-- The total tested against a home's quota, when its usage entry is `x` (R151). -/
def State.unitsHeld (s : State) (t : TreeId) (h : HomeIdx) (x : UsageEntry) : Nat :=
  x.counters.up.val + x.counters.down.val
    + (match x.inSnapshot with
       | some tag => s.meter.snapshotUnits tag t h
       | none => 0)

/-- Home `h` of tree `t` has the usage entry `x`, and its quota is evaluated: a throttle that is "no" is
set when the quota is above 0 and the total reaches it, with a QUOTA notice (R151, R152). -/
def State.evaluatedWith (s : State) (t : TreeId) (h : HomeIdx) (x : UsageEntry) : State :=
  let r := s.record t h
  let total := s.unitsHeld t h x
  let held := s.modHome t h (fun y => { y with usage := some x })
  if r.throttled = some false ∧ 0 < r.quota.getD 0 ∧ r.quota.getD 0 ≤ total then
    (held.modRecord t h (fun r => { r with throttled := some true })).post .meter 31 (.quota
      { serial := r.serial.getD 0, tree := t, home := h, generation := r.generation
        interval := x.interval, quota := r.quota.getD 0, total := total, round := s.round })
  else held

/-- A count that gains `n` and saturates with its flag (R148). -/
def Count.plus (c : Count) (n : Nat) : Count :=
  if 4294967295 < c.val + n then ⟨4294967295, true⟩ else ⟨c.val + n, c.sat⟩

/-- A count that takes a snapshot's count back, and its flag with it (R169). -/
def Count.regains (c r : Count) : Count :=
  ⟨min (c.val + r.val) 4294967295, c.sat || r.sat || decide (4294967295 < c.val + r.val)⟩

/-! ### What every step keeps -/

/-- The chip-wide values: places, station, chip state, share and peer table (R1, R44, R47, R53, R55, R108,
R110, R113, R116, R173, R174, R176 to R178). -/
structure ChipInv (s : State) : Prop where
  round : s.round < 65536
  queuePlaces : s.bus.queue.length ≤ 16
  clashes : ∀ e ∈ s.bus.queue, e.clashes < 16
  oneOnLine : (s.bus.queue.filter (fun e => e.onLine)).length ≤ 1
  address : s.bus.address ≤ 30
  managers : s.bus.managers.Nodup ∧ s.bus.managers.length ≤ 2
    ∧ ∀ m ∈ s.bus.managers, m ≤ 30 ∧ m ≠ s.bus.address
  epoch : s.share.epoch < 32
  peers : (s.share.peers.map Peer.address).Nodup ∧ s.share.peers.length ≤ 30
    ∧ ∀ p ∈ s.share.peers, p.address ≤ 30 ∧ p.address ≠ s.bus.address
        ∧ p.committed ≤ s.chipMax ∧ p.excess ≤ s.chipMax ∧ p.age ≤ 3
  share : s.share.share ≤ s.cfg.capacity ∧ s.share.share ≤ s.chipMax
  own : ∀ d, s.share.own = some d → d.committed ≤ s.chipMax ∧ d.excess ≤ s.chipMax
  waiting : s.bus.chipState = .waitingSettings →
    s.bus.settings = none ∧ s.bus.managers = [] ∧ s.share.peers = [] ∧ s.share.own = none
      ∧ s.share.share = 0 ∧ s.bus.helloCountdown.any (fun n => decide (n ≤ 2500)) = true
  running : s.bus.chipState = .running →
    (∃ c, s.bus.settings = some c ∧ settingsInRange c) ∧ s.bus.managers ≠ []
      ∧ s.bus.helloCountdown = none

/-- The Transmitters and Receivers keep to their places (R3, R8, R13, R23). -/
structure PlacesInv (s : State) : Prop where
  words : ∀ t, (s.tree t).tx.words.length ≤ 160
  plans : ∀ t, (s.tree t).tx.pendingPlans.length ≤ 2 ∧ (s.tree t).rx.awaiting.length ≤ 2
  taken : ∀ t, (s.tree t).tx.taken.length ≤ 64 ∧ ∀ f ∈ (s.tree t).tx.taken, f.bytes.length ≤ 16384
  lineRoom : ∀ t, (s.tree t).tx.lineRoom ≤ 500000
  settled : ∀ t w, (s.tree t).rx.window = some w → w.settled ≤ w.plan.grants.length

/-- A departed record carries the mark of a readout (R156). -/
def DepartedRecord.marked (d : DepartedRecord) : Bool := d.mark.isSome

/-- The readout table and the departed list (R154 to R156, R158 to R165).  An in_snapshot tag names an entry
of the table that has been cut and holds the home's record (R159, R164). -/
structure MeterInv (s : State) : Prop where
  places : s.meter.readouts.length ≤ 4 ∧ s.meter.departed.length ≤ 32
  tags : (s.meter.readouts.map Readout.tag).Nodup
    ∧ ∀ e ∈ s.meter.readouts, 1 ≤ e.tag ∧ e.tag ≤ 255
  nextTag : 1 ≤ s.meter.nextTag ∧ s.meter.nextTag ≤ 255
    ∧ ∀ e ∈ s.meter.readouts, e.tag ≠ s.meter.nextTag
  usage : ∀ e ∈ s.meter.readouts, ∀ t first, e.range = .usage t first →
    1 ≤ e.count ∧ e.count ≤ 6 ∧ first.val + e.count ≤ 128
      ∧ (e.state = .preparing → e.timer = none ∧ e.snapshot = [])
      ∧ (e.state ≠ .preparing → e.timer ≠ none
          ∧ e.snapshot.map (fun r => (snapshotTree r, (snapshotHome r).val))
            = (List.range' first.val e.count).map (fun n => (t, n)))
  departed : ∀ e ∈ s.meter.readouts, e.range = .departed →
    1 ≤ e.count ∧ e.count ≤ 4 ∧ e.state ≠ .preparing ∧ e.timer ≠ none ∧ e.snapshot = []
      ∧ (s.meter.departed.filter (fun d => decide (d.mark = some e.tag))).length ≤ e.count
  marks : ∀ d ∈ s.meter.departed, ∀ tag, d.mark = some tag →
    ∃ e ∈ s.meter.readouts, e.tag = tag ∧ e.range = .departed
  held : ∀ t h x tag, (s.home t h).usage = some x → x.inSnapshot = some tag →
    ∃ e ∈ s.meter.readouts, e.tag = tag ∧ e.state ≠ .preparing
      ∧ ∃ serial interval counters,
        SnapshotRecord.taken serial t h (s.record t h).generation interval counters ∈ e.snapshot
  unmarked : (s.meter.departed.filter DepartedRecord.marked).length ≤ 16

/-- The fields of a record and what stands beside it are present as its state says (R26, R28, R36, R84,
R90, R145), and within their bounds. -/
structure HomeInv (x : Home) : Prop where
  present : ∀ f ∈ [x.record.serial.isSome, x.record.rtt.isSome, x.record.eqd.isSome,
      x.record.enrolLevel.isSome, x.record.lastLevel.isSome, x.record.contested.isSome],
    f = decide (x.record.state ≠ .free)
  tiered : ∀ f ∈ [x.record.tier.isSome, x.record.quota.isSome, x.record.throttled.isSome,
      x.record.relapses.isSome, x.usage.isSome],
    f = isTiered x.record.state
  active : ∀ f ∈ [x.record.silence.isSome, x.record.backlog.isSome, x.record.pollCountdown.isSome,
      x.record.rogueScore.isSome],
    f = decide (x.record.state = .active)
  beside : x.record.state ≠ .active → x.reportSlot = none ∧ x.trimHold = none
  timer : (x.record.state = .free ∨ x.record.state = .active → x.record.stateTimer = none)
    ∧ (x.record.state = .awaiting ∨ x.record.state = .barred ∨ x.record.state = .lost →
        x.record.stateTimer ≠ none)
  delay : ∀ rtt eqd, x.record.rtt = some rtt → x.record.eqd = some eqd → rtt + eqd = 12800
  generation : x.record.generation < 65536
  contested : ∀ n, x.record.contested = some n → n ≤ 255
  score : ∀ n, x.record.rogueScore = some n → n ≤ 31
  trimHold : ∀ n, x.trimHold = some n → n ≤ 16
  backlog : ∀ n, x.record.backlog = some n ∨ x.reportSlot = some n → n ≤ 65535
  levels : ∀ n, x.record.enrolLevel = some n ∨ x.record.lastLevel = some n → -400 ≤ n ∧ n ≤ -50

/-- The relapses that a search outcome carries are within RELAPSE_LIMIT (R126, R137). -/
def outcomeWithin (limit : Nat) : SearchOutcome → Prop
  | .moved _ prior | .held _ prior => ∀ n, prior = some n → n ≤ limit

/-- The command in front, if it is an UNDO_REQUEST, is one that the Monitor has sent (R139, R140). -/
def State.undoInFlight (s : State) : Prop :=
  ∀ t h generation outcome refuseNoted rest,
    s.pending = .undoRequest t h generation outcome refuseNoted :: rest →
      Instr.undoRequest t h generation outcome refuseNoted ∈ s.inFlight

/-- The Home Table, its serial index and the admission limit (R25, R26, R31, R78, R122, R173).  Silence and
the poll countdown stay below the settings that bound them (R33, R92); relapses, and those that a search
outcome recorded or sent back carries, within RELAPSE_LIMIT (R126, R137, R139). -/
structure TableInv (s : State) : Prop where
  settings : s.bus.chipState = .running ↔ s.bus.settings.isSome = true
  homes : ∀ t h, HomeInv (s.home t h)
  serials : (s.serialIndex.map SerialEntry.serial).Nodup
  index : ∀ (serial : Serial) t h, ⟨serial, t, h⟩ ∈ s.serialIndex ↔
    (s.record t h).state ≠ .free ∧ (s.record t h).serial = some serial
  admitted : ∀ t, s.crSum t ≤ s.cfg.admitCap
  silence : ∀ t h n, (s.record t h).silence = some n → n < s.cfg.silentLimit
  polls : ∀ t h n, (s.record t h).pollCountdown = some n → n < s.cfg.pollEvery
  relapses : ∀ t h n, (s.record t h).relapses = some n → n ≤ s.cfg.relapseLimit
  outcomes : ∀ t v o, (s.tree t).light = .verify v → v.outcome = some o → outcomeWithin s.cfg.relapseLimit o
  undos : ∀ t h generation o refuseNoted,
    Instr.undoRequest t h generation (some o) refuseNoted ∈ s.inFlight → outcomeWithin s.cfg.relapseLimit o
  off : ∀ t, (s.tree t).light = .off ↔ s.enabled t = false
  disabled : ∀ t, s.enabled t = false →
    (∀ h, (s.record t h).state = .free)
      ∧ (s.tree t).tx.words = [] ∧ (s.tree t).tx.pendingPlans = [] ∧ (s.tree t).tx.taken = []
      ∧ (s.tree t).rx.window = none ∧ (s.tree t).rx.awaiting = []
      ∧ (s.tree t).headerDue = false ∧ (s.tree t).receiveDue = false

/-- The candidates of a search and its test_dark flags, and the record that is verified (R130, R131, R135,
R136, R141). -/
structure WatchInv (s : State) : Prop where
  searching : ∀ t d, (s.tree t).light = .search d →
    (d.testHalf ++ d.rest).Pairwise (fun h k => h < k)
      ∧ (∀ h ∈ d.testHalf ++ d.rest, (s.record t h).state ≠ .free)
      ∧ ∀ h, (s.record t h).testDark = some (decide (h ∈ d.testHalf))
  others : ∀ t, (s.tree t).light.isSearch = false → ∀ h, (s.record t h).testDark = none
  verifying : ∀ t v, (s.tree t).light = .verify v →
    (s.record t v.home).state ≠ .free ∧ (s.record t v.home).generation = v.generation

end Sys2Proof.Machine
end

