-- ==== Sys2Proof/Certificates/Slice0/Obligations.lean ====
section
/-! DEFINITION. The statements for the provers, family by family. -/

open Sys2Proof Sys2Proof.Machine

/-! ### Management requests on records (chapters 2 and 4) -/

/-- REFUSE (section 2.6, R38): the record found is barred with BAR_HOLD running, a tiered record is
handed off first, a DARKEN is queued, the answer is ACCEPTED, and nothing else changes. DISMISS (section
2.6, R40): the record found is freed after the hand-off it owes, a DISMISS is queued, the answer is
ACCEPTED, and nothing else changes. That the frame leaves the requests in flight is the model's choice
(notes/assumptions/4.md). -/
def Obligations.RefuseBarsAndDismissFrees : Prop :=
  (∀ (s : State) (sender : Nat) (serial : Serial) (t : TreeId) (h : HomeIdx),
     s.inReset = none → s.obeys sender = true → s.lookup serial = some (t, h) →
     ∃ u, exec (.refuse sender serial) s = .next u
       ∧ u.home t h =
         { record := (s.record t h).untiered .barred (some (max s.cfg.barHold 1))
           reportSlot := none, trimHold := none, usage := s.usageAfterHandOff t h }
       ∧ u.meter = s.meterAfterHandOff t h .refused
       ∧ (u.tree t).tx = ((s.tree t).tx.push (.darken h)).1
       ∧ (u.tree t).light = (s.tree t).light.afterNotice h (s.record t h).generation .barred .refuse
       ∧ u.serialIndex = s.serialIndex
       ∧ ((s.take (.refuse sender serial)).post .enrolment sender
           (.accepted (.serial .refuse serial) none)).sameTraffic u
       ∧ s.onlyHome u t h)
  ∧ (∀ (s : State) (sender : Nat) (serial : Serial) (t : TreeId) (h : HomeIdx),
       s.inReset = none → s.obeys sender = true → s.lookup serial = some (t, h) →
       ∃ u, exec (.dismiss sender serial) s = .next u ∧ s.freed u t h .dismissed .dismiss
         ∧ ((s.take (.dismiss sender serial)).post .enrolment sender
             (.accepted (.serial .dismiss serial) none)).sameTraffic u)

/-- RELEASE (section 2.6, R39): a QUENCHED record becomes ACTIVE with relapses 0 and a LIGHT is queued;
a BARRED record is freed; both are answered ACCEPTED. In every other state nothing changes and the
answer is DECLINED WRONG_STATE. That the frame leaves the requests in flight is the model's choice
(notes/assumptions/4.md). -/
def Obligations.ReleaseEndsTheDark : Prop :=
  ∀ (s : State) (sender : Nat) (serial : Serial) (t : TreeId) (h : HomeIdx),
    s.inReset = none → s.obeys sender = true → s.lookup serial = some (t, h) →
    ((s.record t h).state = .quenched →
      ∃ u, exec (.release sender serial) s = .next u
        ∧ s.entered u t h
          { (s.record t h).activated with relapses := (s.record t h).relapses.map (fun _ => 0) }
          .release (.light h)
        ∧ ((s.take (.release sender serial)).post .enrolment sender
            (.accepted (.serial .release serial) none)).sameTraffic u)
    ∧ ((s.record t h).state = .barred →
      ∃ u, exec (.release sender serial) s = .next u ∧ s.freed u t h .dismissed .release
        ∧ u.meter = s.meter
        ∧ ((s.take (.release sender serial)).post .enrolment sender
            (.accepted (.serial .release serial) none)).sameTraffic u)
    ∧ ((s.record t h).state ≠ .quenched → (s.record t h).state ≠ .barred →
      exec (.release sender serial) s = .next ((s.take (.release sender serial)).post .enrolment sender
        (.declined (.serial .release serial) .wrongState none)))

/-- A REFUSE, RELEASE, DISMISS or ADMIT of a serial held nowhere is answered DECLINED NOT_FOUND, and an
ADMIT for a tier above 7 DECLINED BAD_TIER whatever its serial (R37, R78). An ADMIT that would pass
ADMIT_CAP is answered DECLINED CAPACITY, and one that finds its record CLAIMING or BARRED DECLINED
WRONG_STATE (R78 to R80). Nothing else changes. That the frame leaves the requests in flight is the
model's choice (notes/assumptions/4.md). -/
def Obligations.RequestsAreDeclinedWithTheirReason : Prop :=
  (∀ (s : State) (sender : Nat) (serial : Serial) (tier quota : Nat),
     s.inReset = none → s.obeys sender = true →
     (s.lookup serial = none →
       (exec (.refuse sender serial) s = .next ((s.take (.refuse sender serial)).post .enrolment sender
           (.declined (.serial .refuse serial) .notFound none))
         ∧ exec (.release sender serial) s = .next ((s.take (.release sender serial)).post .enrolment
           sender (.declined (.serial .release serial) .notFound none))
         ∧ exec (.dismiss sender serial) s = .next ((s.take (.dismiss sender serial)).post .enrolment
           sender (.declined (.serial .dismiss serial) .notFound none))
         ∧ (tier < 8 → exec (.admission sender serial tier quota) s =
           .next ((s.take (.admission sender serial tier quota)).post .enrolment sender
             (.declined (.serial .admission serial) .notFound none)))))
     ∧ (8 ≤ tier → exec (.admission sender serial tier quota) s =
         .next ((s.take (.admission sender serial tier quota)).post .enrolment sender
           (.declined (.serial .admission serial) .badTier none))))
  ∧ (∀ (s : State) (sender : Nat) (serial : Serial) (tier : Fin 8) (quota : Nat) (t : TreeId) (h : HomeIdx),
       s.inReset = none → s.obeys sender = true → s.lookup serial = some (t, h) →
       let c := Instr.admission sender serial tier quota
       let declined := fun reason =>
         (s.take c).post .enrolment sender (.declined (.serial .admission serial) reason none)
       ((s.record t h).state = .awaiting → s.cfg.admitCap < s.crSum t + (s.rates tier).cr →
         exec c s = .next (declined .capacity))
       ∧ (isTiered (s.record t h).state = true →
           s.cfg.admitCap < s.crSum t - (s.ratesOf (s.record t h)).cr + (s.rates tier).cr →
         exec c s = .next (declined .capacity))
       ∧ ((s.record t h).state = .claiming ∨ (s.record t h).state = .barred →
         exec c s = .next (declined .wrongState)))

/-- An ADMIT within ADMIT_CAP. Of an AWAITING home (section 4.5.1, R79): the record becomes ACTIVE with
the tier and quota named, not throttled and with no relapse, its usage entry begins at interval 0, the
CR sum gains the tier's CR. Of a tiered home (R80, R153): its tier and quota change and the throttle is
looked at again: cleared when the quota is 0 or not reached, set with a QUOTA notice when it is reached
and was not set. Both are answered ACCEPTED. The order of QUOTA and ACCEPTED is the model's choice
(notes/assumptions/13.md). -/
def Obligations.AdmitSetsTierAndQuota : Prop :=
  (∀ (s : State) (sender : Nat) (serial : Serial) (tier : Fin 8) (quota : Nat) (t : TreeId) (h : HomeIdx),
     s.inReset = none → s.obeys sender = true → s.lookup serial = some (t, h) →
     (s.record t h).state = .awaiting → s.crSum t + (s.rates tier).cr ≤ s.cfg.admitCap →
     ∃ u, exec (.admission sender serial tier quota) s = .next u
       ∧ u.home t h =
         { record := { (s.record t h).activated with
             tier := some tier, quota := some quota, throttled := some false, relapses := some 0 }
           reportSlot := none, trimHold := none
           usage := some { counters := ⟨⟨0, false⟩, ⟨0, false⟩, ⟨0, false⟩, ⟨0, false⟩, ⟨0, false⟩⟩,
                           residueUp := 0, residueDown := 0, interval := 0, inSnapshot := none } }
       ∧ u.crSum t = s.crSum t + (s.rates tier).cr
       ∧ u.meter = s.meter ∧ (u.tree t).tx = (s.tree t).tx ∧ (u.tree t).light = (s.tree t).light
       ∧ u.serialIndex = s.serialIndex
       ∧ ((s.take (.admission sender serial tier quota)).post .enrolment sender
           (.accepted (.serial .admission serial) none)).sameTraffic u
       ∧ s.onlyHome u t h)
  ∧ (∀ (s : State) (sender : Nat) (serial : Serial) (tier : Fin 8) (quota : Nat) (t : TreeId) (h : HomeIdx),
       s.inReset = none → s.obeys sender = true → s.lookup serial = some (t, h) →
       isTiered (s.record t h).state = true →
       s.crSum t - (s.ratesOf (s.record t h)).cr + (s.rates tier).cr ≤ s.cfg.admitCap →
       let c := Instr.admission sender serial tier quota
       let reached := decide (0 < quota) && decide (quota ≤ s.quotaTotal t h)
       let notice : QuotaNotice :=
         { serial := (s.record t h).serial.getD 0, tree := t, home := h
           generation := (s.record t h).generation
           interval := ((s.home t h).usage.map (·.interval)).getD 0
           quota := quota, total := s.quotaTotal t h, round := s.round }
       ∃ u, exec c s = .next u
         ∧ u.home t h = { s.home t h with record := { s.record t h with
             tier := some tier, quota := some quota
             throttled := (s.record t h).throttled.map (fun _ => reached) } }
         ∧ u.meter = s.meter ∧ (u.tree t).tx = (s.tree t).tx ∧ (u.tree t).light = (s.tree t).light
         ∧ u.serialIndex = s.serialIndex
         ∧ (((if reached && decide ((s.record t h).throttled = some false) then
               (s.take c).post .meter 31 (.quota notice)
             else s.take c)).post .enrolment sender (.accepted (.serial .admission serial) none)).sameTraffic u
         ∧ s.onlyHome u t h)

/-- LOST_HOLD, ADMIT_WAIT and BAR_HOLD running out free the record and queue a DISMISS; a LOST record is
handed off with LOST_EXPIRED; no message is posted (R35, R81, R82). QUENCH_HOLD running out returns the
record to ACTIVE, keeps its relapses and queues a LIGHT (R127); the end of a trim hold brings the hold
to rest and changes nothing else (R84). That an expiry event is one of a timer at 0 is the model's
choice (notes/assumptions/5.md). -/
def Obligations.HoldsRunOut : Prop :=
  (∀ (s : State) (t : TreeId) (h : HomeIdx),
     s.inReset = none → (s.record t h).stateTimer = some 0 →
     ((s.record t h).state = .lost →
       ∃ u, exec (.lostHoldExpiry t h) s = .next u ∧ s.freed u t h .lostExpired .lostExpired
         ∧ s.sameTraffic u)
     ∧ ((s.record t h).state = .awaiting →
       ∃ u, exec (.admitWaitExpiry t h) s = .next u ∧ s.freed u t h .dismissed .admitExpired
         ∧ u.meter = s.meter ∧ s.sameTraffic u)
     ∧ ((s.record t h).state = .barred →
       ∃ u, exec (.barHoldExpiry t h) s = .next u ∧ s.freed u t h .dismissed .barExpired
         ∧ u.meter = s.meter ∧ s.sameTraffic u))
  ∧ (∀ (s : State) (t : TreeId) (h : HomeIdx), s.inReset = none →
       ((s.record t h).state = .quenched → (s.record t h).stateTimer = some 0 →
         ∃ u, exec (.quenchHoldExpiry t h) s = .next u
           ∧ s.entered u t h (s.record t h).activated .holdEnd (.light h) ∧ s.sameTraffic u)
       ∧ ((s.home t h).trimHold = some 0 →
         ∃ u, exec (.trimHoldEnd t h) s = .next u
           ∧ u.home t h = { s.home t h with trimHold := none }
           ∧ u.meter = s.meter ∧ (u.tree t).tx = (s.tree t).tx ∧ (u.tree t).light = (s.tree t).light
           ∧ u.serialIndex = s.serialIndex ∧ s.onlyHome u t h ∧ s.sameTraffic u))

/-! ### Claims and objections (chapter 4) -/

/-- The report that a CLAIM was sent starts CLAIM_WAIT of a CLAIMING record of the generation named; the
report that it was dropped frees that record; any other record ignores both (R73). CLAIM_WAIT running
out: the record becomes AWAITING with ADMIT_WAIT running, and a FOUND with its serial, tree, index, rtt
and enrol_level is posted to all stations (R74). Requests and reports in flight are the model's choice
(notes/assumptions/4.md), and so is that an expiry event is one of a timer at 0
(notes/assumptions/5.md). -/
def Obligations.ClaimingRecordFollowsItsClaim : Prop :=
  (∀ (s : State) (t : TreeId) (h : HomeIdx) (generation : Nat), s.inReset = none →
     ((s.record t h).state = .claiming → (s.record t h).generation = generation →
       (∃ u, exec (.claimSentReport t h generation) s = .next u
         ∧ s.recordOnly u t h { s.record t h with stateTimer := some (max s.cfg.claimWait 1) }
         ∧ (s.take (.claimSentReport t h generation)).sameTraffic u)
       ∧ (∃ u, exec (.claimDroppedReport t h generation) s = .next u
         ∧ s.freed u t h .dismissed .claimDropped ∧ u.meter = s.meter
         ∧ (s.take (.claimDroppedReport t h generation)).sameTraffic u))
     ∧ ((s.record t h).state ≠ .claiming ∨ (s.record t h).generation ≠ generation →
       exec (.claimSentReport t h generation) s = .next (s.take (.claimSentReport t h generation))
       ∧ exec (.claimDroppedReport t h generation) s =
           .next (s.take (.claimDroppedReport t h generation))))
  ∧ (∀ (s : State) (t : TreeId) (h : HomeIdx), s.inReset = none →
       (s.record t h).state = .claiming → (s.record t h).stateTimer = some 0 →
       ∃ u, exec (.claimWaitExpiry t h) s = .next u
         ∧ u.home t h =
           { record := (s.record t h).untiered .awaiting (some (max s.cfg.admitWait 1))
             reportSlot := none, trimHold := none, usage := (s.home t h).usage }
         ∧ u.meter = s.meter ∧ (u.tree t).tx = (s.tree t).tx ∧ (u.tree t).light = (s.tree t).light
         ∧ u.serialIndex = s.serialIndex ∧ s.onlyHome u t h
         ∧ (s.post .enrolment 31 (.found ((s.record t h).serial.getD 0) t h ((s.record t h).rtt.getD 0)
             ((s.record t h).enrolLevel.getD 0))).sameTraffic u)

/-- A peer's CLAIM, by the record that holds its serial (R75): ACTIVE, QUENCHED and AWAITING object and
count one contest; CLAIMING objects and is barred with a CLONE notice; LOST yields and is freed; BARRED
objects; a serial held nowhere draws nothing. The order of OBJECT and CLONE is the model's choice
(notes/assumptions/13.md), and so is the state that a CLONE of a barred record carries
(notes/assumptions/17.md). -/
def Obligations.PeerClaimIsAnswered : Prop :=
  ∀ (s : State) (peer : Nat) (serial : Serial) (tree index : Nat),
    s.inReset = none → s.hearsPeer peer = true →
    let c := Instr.claimReceived peer serial tree index
    let objected := (s.take c).post .enrolment peer (.object serial tree index)
    (s.lookup serial = none → exec c s = .next (s.take c))
    ∧ ∀ (t : TreeId) (h : HomeIdx), s.lookup serial = some (t, h) →
      let r := s.record t h
      (r.state = .active ∨ r.state = .quenched ∨ r.state = .awaiting →
        ∃ u, exec c s = .next u
          ∧ s.recordOnly u t h { r with contested := r.contested.map (fun n => min (n + 1) 255) }
          ∧ objected.sameTraffic u)
      ∧ (r.state = .claiming →
        ∃ u, exec c s = .next u
          ∧ s.entered u t h (r.untiered .barred (some (max s.cfg.barHold 1))) .barredByPeer (.darken h)
          ∧ (objected.post .enrolment 31 (.clone
              { serial := r.serial.getD 0, tree := t, home := h, state := .barred
                contested := r.contested.getD 0, source := .objected
                replyTree := 0, rtt := 0, level := 0, peer := peer })).sameTraffic u)
      ∧ (r.state = .lost →
        ∃ u, exec c s = .next u ∧ s.freed u t h .yielded .yielded ∧ (s.take c).sameTraffic u)
      ∧ (r.state = .barred → exec c s = .next objected)

/-- An OBJECT, by the record that holds its serial (R76, R77): CLAIMING is barred with a CLONE notice;
AWAITING and ACTIVE count one contest with a CLONE notice of a late objection; any other case is
ignored. The state that a CLONE of a barred record carries is the model's choice
(notes/assumptions/17.md). -/
def Obligations.ObjectionIsTaken : Prop :=
  ∀ (s : State) (peer : Nat) (serial : Serial) (tree index : Nat),
    s.inReset = none → s.hearsPeer peer = true →
    let c := Instr.objectReceived peer serial tree index
    (s.lookup serial = none → exec c s = .next (s.take c))
    ∧ ∀ (t : TreeId) (h : HomeIdx), s.lookup serial = some (t, h) →
      let r := s.record t h
      let notice := fun (state : RecordState) (contested : Nat) (source : CloneSource) =>
        (s.take c).post .enrolment 31 (.clone
          { serial := r.serial.getD 0, tree := t, home := h, state := state, contested := contested
            source := source, replyTree := 0, rtt := 0, level := 0, peer := peer })
      (r.state = .claiming →
        ∃ u, exec c s = .next u
          ∧ s.entered u t h (r.untiered .barred (some (max s.cfg.barHold 1))) .barredByPeer (.darken h)
          ∧ (notice .barred (r.contested.getD 0) .objected).sameTraffic u)
      ∧ (r.state = .awaiting ∨ r.state = .active →
        ∃ u, exec c s = .next u
          ∧ s.recordOnly u t h { r with contested := r.contested.map (fun n => min (n + 1) 255) }
          ∧ (notice r.state ((r.contested.map (fun n => min (n + 1) 255)).getD 0)
              .lateObjection).sameTraffic u)
      ∧ (r.state = .quenched ∨ r.state = .lost ∨ r.state = .barred → exec c s = .next (s.take c))

/-! ### Discovery replies (chapter 4) -/

/-- A reply event that brings no home: no reply read, a GARBLED reply, a round trip outside 0 to 12800
(RANGE_BAD, whatever its level), a level outside LEVEL_MIN to LEVEL_MAX (LEVEL_BAD). Only the reading of
the window and the counter concerned move (R66, R67). -/
def Obligations.BadRepliesAreCountedAndIgnored : Prop :=
  ∀ (s : State) (t : TreeId) (light : ReplyLight) (w w' : Window),
    s.inReset = none → (s.tree t).rx.window = some w → w.plan.call = true →
    let c := Instr.discoveryReply t light
    let e := (s.tree t).enrol
    (readOn s.cfg.litLevel t w light = (w', none) → exec c s = .next (s.readTo t w'))
    ∧ (readOn s.cfg.litLevel t w light = (w', some (.garbled w.plan.round t)) →
      exec c s = .next ((s.readTo t w').counted t { e with garbled := min (e.garbled + 1) 4294967295 }))
    ∧ ∀ (serial : Serial) (delay offset : Nat) (level : Int),
      readOn s.cfg.litLevel t w light = (w', some (.valid w.plan.round t serial delay offset level)) →
      ((offset < 8 * delay ∨ 8 * delay + 12800 < offset →
        exec c s = .next ((s.readTo t w').counted t
          { e with rangeBad := min (e.rangeBad + 1) 4294967295 }))
      ∧ (8 * delay ≤ offset → offset ≤ 8 * delay + 12800 →
          (level < s.cfg.levelMin ∨ s.cfg.levelMax < level) →
        exec c s = .next ((s.readTo t w').counted t
          { e with levelBad := min (e.levelBad + 1) 4294967295 })))

/-- An accepted reply of a serial held nowhere (R69): the lowest FREE record is allocated with the next
generation and becomes CLAIMING with the reply's distance and level, a SET-DELAY is queued, a CLAIM is
posted, and the serial index gains the entry; with no FREE record TABLE_FULL counts. -/
def Obligations.NewHomeIsEnrolled : Prop :=
  ∀ (s : State) (t : TreeId) (light : ReplyLight) (w w' : Window) (serial : Serial)
    (delay offset : Nat) (level : Int),
    s.inReset = none → (s.tree t).rx.window = some w → w.plan.call = true →
    readOn s.cfg.litLevel t w light = (w', some (.valid w.plan.round t serial delay offset level)) →
    8 * delay ≤ offset → offset ≤ 8 * delay + 12800 →
    s.cfg.levelMin ≤ level → level ≤ s.cfg.levelMax → s.lookup serial = none →
    let c := Instr.discoveryReply t light
    let rtt := offset - 8 * delay
    let e := (s.tree t).enrol
    (∀ h : HomeIdx, (s.record t h).state = .free → (∀ k < h, (s.record t k).state ≠ .free) →
      let generation := ((s.record t h).generation + 1) % 65536
      ∃ u, exec c s = .next u
        ∧ u.home t h =
          { record := { HomeRecord.reset with
              state := .claiming, serial := some serial, generation := generation
              rtt := some rtt, eqd := some (12800 - rtt)
              enrolLevel := some level, lastLevel := some level, contested := some 0
              testDark := (s.record t h).testDark }
            reportSlot := none, trimHold := none, usage := (s.home t h).usage }
        ∧ (u.tree t).tx = ((s.tree t).tx.push (.setDelay h serial (12800 - rtt))).1
        ∧ u.serialIndex = s.serialIndex ++ [⟨serial, t, h⟩]
        ∧ u.meter = s.meter ∧ (u.tree t).light = (s.tree t).light
        ∧ (s.postClaim ⟨t, h, generation⟩ serial).sameTraffic u
        ∧ (s.readTo t w').onlyHome u t h)
    ∧ ((∀ k, (s.record t k).state ≠ .free) →
      exec c s = .next ((s.readTo t w').counted t
        { e with tableFull := min (e.tableFull + 1) 4294967295 }))

/-- An accepted reply of a serial held on the same tree (R68, R70, R71): LOST is re-enrolled ACTIVE with
its tier kept and a SET-DELAY queued; CLAIMING and AWAITING have their delay renewed; ACTIVE and
QUENCHED are cloned, with one contest and a CLONE notice; BARRED draws a DARKEN. -/
def Obligations.ReplyOfAHeldSerialOnItsTree : Prop :=
  ∀ (s : State) (t : TreeId) (h : HomeIdx) (light : ReplyLight) (w w' : Window) (serial : Serial)
    (delay offset : Nat) (level : Int),
    s.inReset = none → (s.tree t).rx.window = some w → w.plan.call = true →
    readOn s.cfg.litLevel t w light = (w', some (.valid w.plan.round t serial delay offset level)) →
    8 * delay ≤ offset → offset ≤ 8 * delay + 12800 →
    s.cfg.levelMin ≤ level → level ≤ s.cfg.levelMax → s.lookup serial = some (t, h) →
    let c := Instr.discoveryReply t light
    let rtt := offset - 8 * delay
    let r := s.record t h
    let s' := s.readTo t w'
    let ranged := { r with
      rtt := some rtt, eqd := some (12800 - rtt), enrolLevel := some level, lastLevel := some level }
    let delayWord := ControlWord.setDelay h (r.serial.getD 0) (12800 - rtt)
    (r.state = .lost →
      ∃ u, exec c s = .next u ∧ s'.entered u t h ranged.activated .reenrol delayWord
        ∧ s.sameTraffic u)
    ∧ (r.state = .claiming ∨ r.state = .awaiting →
      exec c s = .next ((s'.modRecord t h (fun _ => ranged)).queueWord t delayWord))
    ∧ (r.state = .active ∨ r.state = .quenched →
      let contested := r.contested.map (fun n => min (n + 1) 255)
      ∃ u, exec c s = .next u ∧ s'.recordOnly u t h { r with contested := contested }
        ∧ (s.post .enrolment 31 (.clone
            { serial := r.serial.getD 0, tree := t, home := h, state := r.state
              contested := contested.getD 0, source := .reply
              replyTree := t, rtt := rtt, level := level, peer := 0 })).sameTraffic u)
    ∧ (r.state = .barred → exec c s = .next (s'.queueWord t (.darken h)))

/-- An accepted reply on tree `t` of a serial held LOST on another tree `v` (R72): with a FREE record on
`t` the old record is freed first with the hand-off MOVED, and the home is then enrolled on `t`; with
none, TABLE_FULL counts and the LOST record stands. Held BARRED there, the reply is ignored; held in any
other state but FREE it is a clone (R68, R70). -/
def Obligations.ReplyOfASerialHeldOnAnotherTree : Prop :=
  ∀ (s : State) (t v : TreeId) (k : HomeIdx) (light : ReplyLight) (w w' : Window) (serial : Serial)
    (delay offset : Nat) (level : Int),
    s.inReset = none → (s.tree t).rx.window = some w → w.plan.call = true →
    readOn s.cfg.litLevel t w light = (w', some (.valid w.plan.round t serial delay offset level)) →
    8 * delay ≤ offset → offset ≤ 8 * delay + 12800 →
    s.cfg.levelMin ≤ level → level ≤ s.cfg.levelMax → s.lookup serial = some (v, k) → v ≠ t →
    let c := Instr.discoveryReply t light
    let rtt := offset - 8 * delay
    let r := s.record v k
    let s' := s.readTo t w'
    let e := (s.tree t).enrol
    (r.state = .lost →
      (∀ h : HomeIdx, (s.record t h).state = .free → (∀ j < h, (s.record t j).state ≠ .free) →
        let generation := ((s.record t h).generation + 1) % 65536
        ∃ m u, s'.freed m v k .moved .moved ∧ s.sameTraffic m ∧ exec c s = .next u
          ∧ u.home t h =
            { record := { HomeRecord.reset with
                state := .claiming, serial := some serial, generation := generation
                rtt := some rtt, eqd := some (12800 - rtt)
                enrolLevel := some level, lastLevel := some level, contested := some 0
                testDark := (s.record t h).testDark }
              reportSlot := none, trimHold := none, usage := (s.home t h).usage }
          ∧ (u.tree t).tx = ((s.tree t).tx.push (.setDelay h serial (12800 - rtt))).1
          ∧ u.serialIndex = m.serialIndex ++ [⟨serial, t, h⟩]
          ∧ u.meter = m.meter ∧ (u.tree t).light = (s.tree t).light
          ∧ (s.postClaim ⟨t, h, generation⟩ serial).sameTraffic u
          ∧ m.onlyHome u t h)
      ∧ ((∀ j, (s.record t j).state ≠ .free) →
        exec c s = .next (s'.counted t { e with tableFull := min (e.tableFull + 1) 4294967295 })))
    ∧ (r.state = .barred → exec c s = .next s')
    ∧ (r.state = .active ∨ r.state = .quenched ∨ r.state = .claiming ∨ r.state = .awaiting →
      let contested := r.contested.map (fun n => min (n + 1) 255)
      ∃ u, exec c s = .next u ∧ s'.recordOnly u v k { r with contested := contested }
        ∧ (s.post .enrolment 31 (.clone
            { serial := r.serial.getD 0, tree := v, home := k, state := r.state
              contested := contested.getD 0, source := .reply
              replyTree := t, rtt := rtt, level := level, peer := 0 })).sameTraffic u)

/-! ### Quenches and their undoing (chapter 7) -/

/-- A score quench request (R125, R126): an ACTIVE record of the generation named becomes QUENCHED with
one relapse more, QUENCH_HOLD runs while the relapses are below RELAPSE_LIMIT, a DARKEN is queued, an
ALARM ROGUE_SCORE is posted and, where no hold runs, an ALARM RELAPSE_LIMIT. Any other record ignores
it. The order of the two alarms is the model's choice (notes/assumptions/13.md). -/
def Obligations.ScoreQuenchIsMade : Prop :=
  ∀ (s : State) (t : TreeId) (h : HomeIdx) (generation : Nat), s.inReset = none →
    let c := Instr.scoreQuenchRequest t h generation
    let r := s.record t h
    let relapses := r.relapses.map (fun n => min (n + 1) s.cfg.relapseLimit)
    let holds := decide (r.relapses.getD 0 + 1 < s.cfg.relapseLimit)
    let quenched := { r.standing .quenched (if holds then some (max s.cfg.quenchHold 1) else none) with
      relapses := relapses
      testDark := darkAfterNotice (s.tree t).light .quenched .scoreQuench r.testDark }
    let alarmed := (s.take c).post .monitor 31 (.alarm
      { kind := .rogueScore, tree := t, round := s.round, cause := none, home := h
        serial := r.serial.getD 0, generation := generation, relapses := relapses.getD 0
        holdRuns := holds, state := none, figure := 0 })
    (r.state = .active → r.generation = generation →
      ∃ u, exec c s = .next u
        ∧ s.entered u t h quenched .scoreQuench (.darken h)
        ∧ (if holds then alarmed
            else alarmed.post .monitor 31 (.alarm
              { kind := .relapseLimit, tree := t, round := s.round, cause := none, home := h
                serial := r.serial.getD 0, generation := 0, relapses := relapses.getD 0
                holdRuns := false, state := none, figure := 0 })).sameTraffic u)
    ∧ (r.state ≠ .active ∨ r.generation ≠ generation → exec c s = .next (s.take c))

/-- A search quench request, by the state in which it finds the record of the generation named (R136,
R137): ACTIVE and LOST become QUENCHED with one relapse more; CLAIMING and AWAITING become BARRED; a
QUENCHED record's hold is stopped and its relapses set to RELAPSE_LIMIT; a BARRED record stands. Each
draws a DARKEN and has its outcome recorded in the verify data. A FREE record or one of another
generation ignores the request. That the request leaves those in flight is the model's choice
(notes/assumptions/4.md). -/
def Obligations.SearchQuenchGoesByState : Prop :=
  ∀ (s : State) (t : TreeId) (h : HomeIdx) (generation : Nat), s.inReset = none →
    let c := Instr.searchQuenchRequest t h generation
    let r := s.record t h
    let relapses := r.relapses.map (fun n => min (n + 1) s.cfg.relapseLimit)
    let holds := decide (r.relapses.getD 0 + 1 < s.cfg.relapseLimit)
    let noted := fun o => s.setLight t ((s.tree t).light.withOutcome h generation o)
    let ignoring := fun (state : RecordState) => (s.take c).post .monitor 31 (.alarm
      { kind := .rogueFound, tree := t, round := s.round, cause := some .ignoringDarken, home := h
        serial := r.serial.getD 0, generation := 0, relapses := 0
        holdRuns := false, state := some state, figure := 0 })
    (r.generation = generation →
      (r.state = .active ∨ r.state = .lost →
        ∃ u, exec c s = .next u
          ∧ (noted (.moved r.state r.relapses)).entered u t h
              { r.standing .quenched (if holds then some (max s.cfg.quenchHold 1) else none) with
                relapses := relapses }
              .searchQuench (.darken h)
          ∧ (if holds then s.take c
              else (s.take c).post .monitor 31 (.alarm
                { kind := .relapseLimit, tree := t, round := s.round, cause := none, home := h
                  serial := r.serial.getD 0, generation := 0, relapses := relapses.getD 0
                  holdRuns := false, state := none, figure := 0 })).sameTraffic u)
      ∧ (r.state = .claiming ∨ r.state = .awaiting →
        ∃ u, exec c s = .next u
          ∧ (noted (.moved r.state r.relapses)).entered u t h
              (r.untiered .barred (some (max s.cfg.barHold 1))) .searchBar (.darken h)
          ∧ (s.take c).sameTraffic u)
      ∧ (r.state = .quenched →
        ∃ u, exec c s = .next u
          ∧ ((noted (.held .quenched r.relapses)).queueWord t (.darken h)).recordOnly u t h
              { r with stateTimer := none, relapses := some s.cfg.relapseLimit }
          ∧ (ignoring .quenched).sameTraffic u)
      ∧ (r.state = .barred →
        ∃ u, exec c s = .next u
          ∧ ((noted (.held .barred r.relapses)).queueWord t (.darken h)).recordOnly u t h r
          ∧ (ignoring .barred).sameTraffic u))
    ∧ (r.state = .free ∨ r.generation ≠ generation → exec c s = .next (s.take c))

/-- An undo request without a noted REFUSE, for a record that stands where the outcome left it (R140):
QUENCHED returns to ACTIVE with the relapses from before, BARRED to CLAIMING or AWAITING with its wait
started anew, and each draws a LIGHT; a hold stopped on a QUENCHED record runs again where the relapses
from before are below RELAPSE_LIMIT. A noted REFUSE, another record or another state: no effect. That a
request without an outcome is ignored is the model's reading (notes/assumptions/18.md). -/
def Obligations.UndoRestoresWhatTheSearchDid : Prop :=
  ∀ (s : State) (t : TreeId) (h : HomeIdx) (generation : Nat) (prior : Option Nat)
    (outcome : Option SearchOutcome) (refuseNoted : Bool), s.inReset = none →
    let c := fun o => Instr.undoRequest t h generation (some o) false
    let r := s.record t h
    (r.generation = generation →
      (r.state = .quenched →
        (∀ from' : RecordState, from' = .active ∨ from' = .lost →
          ∃ u, exec (c (.moved from' prior)) s = .next u
            ∧ s.entered u t h
                { r.activated with relapses := r.relapses.map (fun n => prior.getD n) }
                (.undo prior) (.light h)
            ∧ (s.take (c (.moved from' prior))).sameTraffic u)
        ∧ ∃ u, exec (c (.held .quenched prior)) s = .next u
            ∧ s.recordOnly u t h
                { r with
                  relapses := r.relapses.map (fun n => prior.getD n)
                  stateTimer := if prior.getD 0 < s.cfg.relapseLimit
                    then some (max s.cfg.quenchHold 1) else r.stateTimer }
            ∧ (s.take (c (.held .quenched prior))).sameTraffic u)
      ∧ (r.state = .barred →
        (∃ u, exec (c (.moved .claiming prior)) s = .next u
          ∧ s.entered u t h (r.untiered .claiming (some (max s.cfg.claimWait 1))) (.undo prior) (.light h)
          ∧ (s.take (c (.moved .claiming prior))).sameTraffic u)
        ∧ ∃ u, exec (c (.moved .awaiting prior)) s = .next u
          ∧ s.entered u t h (r.untiered .awaiting (some (max s.cfg.admitWait 1))) (.undo prior) (.light h)
          ∧ (s.take (c (.moved .awaiting prior))).sameTraffic u))
    ∧ let d := Instr.undoRequest t h generation outcome refuseNoted
      (refuseNoted = true ∨ r.generation ≠ generation
          ∨ outcome.bind stateLeftBy ≠ some r.state →
        exec d s = .next (s.take d))

/-! ### Watching the dark (chapter 7) -/

/-- A tree that enters SEARCH (R130, R131, R142): an ALARM SEARCH_START with the number of candidates,
which are the records that are not FREE in ascending index. With a candidate, the first half, rounded
up, becomes the test half, CHOSEN, and test_dark is set on it and clear on every other record. With
none, the tree goes to FOREIGN with an ALARM FOREIGN_LIGHT LIST_EMPTY. The order of the two alarms is
the model's choice (notes/assumptions/13.md). -/
def Obligations.SearchBeginsWithEveryEnrolledHome : Prop :=
  ∀ (s : State) (t : TreeId) (cause : AlarmCause),
    let candidates := allHomes.filter (fun h => decide ((s.record t h).state ≠ .free))
    let half := candidates.take ((candidates.length + 1) / 2)
    let alarmed := s.post .monitor 31 (.alarm
      { kind := .searchStart, tree := t, round := s.round, cause := some cause, home := 0, serial := 0
        generation := 0, relapses := 0, holdRuns := false, state := none, figure := candidates.length })
    let u := s.enterSearch t cause
    (candidates ≠ [] →
      (u.tree t).light = .search
          { clearStreak := 0, testHalf := half, rest := candidates.drop ((candidates.length + 1) / 2)
            phase := .chosen }
      ∧ (∀ h, u.home t h = { s.home t h with record :=
          { s.record t h with testDark := some (decide (h ∈ half)) } })
      ∧ s.onlyWatch u t ∧ alarmed.sameTraffic u)
    ∧ (candidates = [] →
      (u.tree t).light = .foreign (max s.cfg.foreignRetry 1)
      ∧ (∀ h, u.home t h = { s.home t h with record := { s.record t h with testDark := none } })
      ∧ s.onlyWatch u t
      ∧ (alarmed.post .monitor 31 (.alarm
          { kind := .foreignLight, tree := t, round := s.round, cause := some .listEmpty, home := 0
            serial := 0, generation := 0, relapses := 0, holdRuns := false, state := none
            figure := (s.tree t).rx.lastLit.getD 0 })).sameTraffic u)

/-- The judgment of a test round (R133, R136): an unlit round leaves the test half and a lit one the
rest. One candidate left: the tree enters VERIFY on it, and a search quench request is sent; none left:
FOREIGN; more: the first half of them, rounded up, is the next test half, and the search goes on. -/
def Obligations.TestRoundHalvesTheSearch : Prop :=
  ∀ (s : State) (t : TreeId) (d : Search) (round : Nat) (lit : Bool),
    (s.tree t).light = .search d → d.phase = .testing round →
    let left := if lit then d.rest else d.testHalf
    let u := s.monitorReceiveEnd t round lit
    s.onlyWatch u t
    ∧ (∀ h, u.home t h = { s.home t h with record := { s.record t h with
        testDark := if 2 ≤ left.length then some (decide (h ∈ left.take ((left.length + 1) / 2)))
          else none } })
    ∧ (2 ≤ left.length → s.sameTraffic u ∧ ∃ d', (u.tree t).light = .search d' ∧ d'.phase = .chosen
        ∧ d'.testHalf ++ d'.rest = left ∧ d'.testHalf.length = (left.length + 1) / 2
        ∧ d'.clearStreak = d.clearStreak)
    ∧ (∀ h, left = [h] →
        (u.tree t).light = .verify
          { home := h, generation := (s.record t h).generation, outcome := none, startRound := none
            counted := 0, lit := 0, refuseNoted := false }
        ∧ (s.raise (.searchQuenchRequest t h (s.record t h).generation)).sameTraffic u)
    ∧ (left = [] → (u.tree t).light = .foreign (max s.cfg.foreignRetry 1)
        ∧ (s.post .monitor 31 (.alarm
          { kind := .foreignLight, tree := t, round := s.round, cause := some .listEmpty, home := 0
            serial := 0, generation := 0, relapses := 0, holdRuns := false, state := none
            figure := (s.tree t).rx.lastLit.getD 0 })).sameTraffic u)

/-- A round receive end in CLEAR, or in SEARCH other than the test round's (R128, R132, R134): the dark
streak counts lit rounds up to DARK_ROUNDS, which starts a search with the cause DARK_STREAK; the clear
streak counts unlit rounds up to DARK_ROUNDS, which ends the search and clears the test_dark flags; the
end of a VOID round goes back to CHOSEN. FOREIGN and OFF take no part. The foreign timer running out
(R142): a lit last round starts a search with the cause RETRY; with an unlit one, or none, the tree
returns to CLEAR with a dark streak of 0. That the expiry event of the foreign timer is one of a timer
at 0 is the model's choice (notes/assumptions/5.md). -/
def Obligations.StreaksAndTimersMoveTheLightState : Prop :=
  (∀ (s : State) (t : TreeId) (round : Nat) (lit : Bool),
     let u := s.monitorReceiveEnd t round lit
     (∀ streak, (s.tree t).light = .clear streak →
       (lit = false → u = s.setLight t (.clear 0))
       ∧ (lit = true → streak + 1 < s.cfg.darkRounds → u = s.setLight t (.clear (streak + 1)))
       ∧ (lit = true → s.cfg.darkRounds ≤ streak + 1 → u = s.enterSearch t .darkStreak))
     ∧ (∀ d, (s.tree t).light = .search d → d.phase ≠ .testing round → d.phase ≠ .void round →
       (lit = true → u = s.setLight t (.search { d with clearStreak := 0 }))
       ∧ (lit = false → d.clearStreak + 1 < s.cfg.darkRounds →
         u = s.setLight t (.search { d with clearStreak := d.clearStreak + 1 }))
       ∧ (lit = false → s.cfg.darkRounds ≤ d.clearStreak + 1 →
         (u.tree t).light = .clear 0 ∧ s.onlyWatch u t ∧ s.sameTraffic u
         ∧ ∀ h, u.home t h = { s.home t h with record := { s.record t h with testDark := none } }))
     ∧ (∀ d, (s.tree t).light = .search d → d.phase = .void round →
       u = s.setLight t (.search { d with phase := .chosen }))
     ∧ (∀ n, (s.tree t).light = .foreign n → u = s) ∧ ((s.tree t).light = .off → u = s))
  ∧ (∀ (s : State) (t : TreeId), s.inReset = none → (s.tree t).light = .foreign 0 →
       (∀ n, (s.tree t).rx.lastLit = some n →
         (s.cfg.darkLitMin ≤ n → exec (.foreignTimerExpiry t) s = .next (s.enterSearch t .retry))
         ∧ (n < s.cfg.darkLitMin → exec (.foreignTimerExpiry t) s = .next (s.setLight t (.clear 0))))
       ∧ ((s.tree t).rx.lastLit = none →
         exec (.foreignTimerExpiry t) s = .next (s.setLight t (.clear 0))))

/-- A round receive end in VERIFY (R138, R139): only rounds v + 1 to v + VERIFY_ROUNDS count, from the
start round v on. The last of them ends the verification: with twice the lit rounds below VERIFY_ROUNDS
an ALARM ROGUE_FOUND CONFIRMED and CLEAR; else an undo request and FOREIGN with an ALARM VERIFY_FAILED.
-/
def Obligations.VerificationCountsAndEnds : Prop :=
  ∀ (s : State) (t : TreeId) (v : Verify) (round : Nat) (lit : Bool),
    (s.tree t).light = .verify v →
    let u := s.monitorReceiveEnd t round lit
    let litNow := v.lit + if lit then 1 else 0
    (v.startRound = none → u = s)
    ∧ ∀ start, v.startRound = some start → start < 65536 → round < 65536 →
      ∀ k < 65536, (start + k) % 65536 = round →
      (k = 0 ∨ s.cfg.verifyRounds < k → u = s)
      ∧ (0 < k → k < s.cfg.verifyRounds →
        u = s.setLight t (.verify { v with counted := v.counted + 1, lit := litNow }))
      ∧ (0 < k → k = s.cfg.verifyRounds → 2 * litNow < s.cfg.verifyRounds →
        (u.tree t).light = .clear 0 ∧ s.onlyWatch u t ∧ (∀ h, u.home t h = s.home t h)
        ∧ (s.post .monitor 31 (.alarm
            { kind := .rogueFound, tree := t, round := s.round, cause := some .confirmed
              home := v.home, serial := (s.record t v.home).serial.getD 0, generation := 0
              relapses := 0, holdRuns := false, state := some (s.record t v.home).state
              figure := 0 })).sameTraffic u)
      ∧ (0 < k → k = s.cfg.verifyRounds → s.cfg.verifyRounds ≤ 2 * litNow →
        (u.tree t).light = .foreign (max s.cfg.foreignRetry 1) ∧ s.onlyWatch u t
        ∧ (∀ h, u.home t h = { s.home t h with record := { s.record t h with testDark := none } })
        ∧ ((s.raise (.undoRequest t v.home v.generation v.outcome v.refuseNoted)).post .monitor 31
            (.alarm
              { kind := .foreignLight, tree := t, round := s.round, cause := some .verifyFailed, home := 0
                serial := 0, generation := 0, relapses := 0, holdRuns := false, state := none
                figure := (s.tree t).rx.lastLit.getD 0 })).sameTraffic u)

/-! ### The shelf line (chapter 3) -/

/-- The line becoming idle with no entry on it (R46, R55): the head of the queue, which is the oldest
entry of the highest class held, goes on the line in its place; with an entry on the line already, or
with an empty queue, only the Interface's notes of the line change. How the entry on the line leaves it
without a clash: a lost contention takes it off the line in its place and counts a loss (R46); the last
check bit sent removes it, counts a frame sent, puts its bits out, and tells its producer SENT, which
for a CLAIM is a report to its record's owner (R48, R58). With nothing on the line neither event does
anything. The outputs and the reports in flight are the model's own record (notes/assumptions/4.md and
7.md). That an idle line is always told by a command is its choice as well (notes/assumptions/29.md). -/
def Obligations.EntriesGoOnAndOffTheLine : Prop :=
  (∀ (s : State), s.inReset = none →
     let seen := s.modBus (fun b => { b with lineSeen := true, clashFrame := false })
     (∀ (older younger : List TxEntry) (e : TxEntry), s.bus.queue = older ++ e :: younger →
       (∀ x ∈ s.bus.queue, x.onLine = false) →
       (∀ x ∈ older, e.cls.code < x.cls.code) → (∀ x ∈ younger, e.cls.code ≤ x.cls.code) →
       exec .lineIdle s =
         .next (seen.modBus (fun b => { b with queue := older ++ { e with onLine := true } :: younger })))
     ∧ ((∃ x ∈ s.bus.queue, x.onLine = true) ∨ s.bus.queue = [] → exec .lineIdle s = .next seen))
  ∧ (∀ (s : State), s.inReset = none →
       (∀ (older younger : List TxEntry) (e : TxEntry), s.bus.queue = older ++ e :: younger →
         e.onLine = true → (∀ x ∈ older, x.onLine = false) →
         (exec .contentionLost s = .next (s.modBus (fun b =>
           { b with
             queue := older ++ { e with onLine := false } :: younger
             counters := { b.counters with losses := min (b.counters.losses + 1) 4294967295 } })))
         ∧ exec .frameSent s = .next
           { s with
             bus := { s.bus with
               queue := older ++ younger
               counters := { s.bus.counters with sent := min (s.bus.counters.sent + 1) 4294967295 } }
             outputs := .told .sent e :: .shelf (e.lineBits s.bus.address) :: s.outputs
             inFlight := s.inFlight ++ (match e.handle with
               | some k => [.claimSentReport k.tree k.home k.generation]
               | none => []) })
       ∧ ((∀ x ∈ s.bus.queue, x.onLine = false) →
         exec .contentionLost s = .next s ∧ exec .frameSent s = .next s))

/-- A clash while sending (R47): below 16 clashes the entry goes off the line in its place with one
clash more; at the sixteenth it is removed as a drop and its producer told. A clash is counted, the rest
of the frame is marked as a clashed one, and an ALARM ADDRESS_CLASH SENDING is posted unless one waits
in the queue other than on the line. The order of removal and alarm, the alarm's further fields and the
mark of the clashed frame are the model's choices (notes/assumptions/12.md). -/
def Obligations.ClashTakesTheEntryOffTheLine : Prop :=
  ∀ (s : State) (older younger : List TxEntry) (e : TxEntry),
    s.inReset = none → s.bus.queue = older ++ e :: younger →
    e.onLine = true → (∀ x ∈ older, x.onLine = false) →
    let off := { e with onLine := false, clashes := e.clashes + 1 }
    let counters := { s.bus.counters with clashes := min (s.bus.counters.clashes + 1) 4294967295 }
    let kept := s.modBus (fun b =>
      { b with queue := older ++ off :: younger, counters := counters, clashFrame := true })
    let dropped : State :=
      { s with
        bus := { s.bus with
          queue := older ++ younger
          counters := { counters with dropped := min (s.bus.counters.dropped + 1) 4294967295 }
          clashFrame := true }
        outputs := .told .dropped off :: s.outputs
        inFlight := s.inFlight ++ (match e.handle with
          | some k => [.claimDroppedReport k.tree k.home k.generation]
          | none => []) }
    let after := if e.clashes + 1 < 16 then kept else dropped
    let waits := fun x : TxEntry =>
      x.onLine = false ∧ ∃ a : Alarm, x.msg = .alarm a ∧ a.kind = .addressClash
    ((∃ x ∈ after.bus.queue, waits x) → exec .addressClashSending s = .next after)
    ∧ ((∀ x ∈ after.bus.queue, ¬ waits x) →
      exec .addressClashSending s = .next (after.post .bus 31 (.alarm
        { kind := .addressClash, tree := 0, round := s.round, cause := some .sending, home := 0
          serial := 0, generation := 0, relapses := 0, holdRuns := false, state := none, figure := 0 })))

/-! ### Frames received (chapter 3) -/

/-- What becomes of a frame before it reaches the filter (R46, R49, R50): nothing is read before the
line's first idle; a bad frame is counted; the rest of a frame that clashed goes nowhere; a sound frame
with the chip's own sender address counts a clash and raises an ALARM ADDRESS_CLASH RECEIVED unless one
waits. The alarm's further fields and when the mark of a clashed frame goes are the model's choices
(notes/assumptions/12.md). -/
def Obligations.BadAndClashingFramesGoNowhere : Prop :=
  ∀ (s : State) (bits : List Bool), s.inReset = none →
    let c := Instr.frameReceived bits
    let s1 := s.modBus (fun b => { b with clashFrame := false })
    (s.bus.lineSeen = false → exec c s = .next s)
    ∧ (s.bus.lineSeen = true →
      (readFrame bits = none → exec c s = .next (s1.modCounters (fun n =>
        { n with bad := min (n.bad + 1) 4294967295 })))
      ∧ ∀ f, readFrame bits = some f →
        (s.bus.clashFrame = true → exec c s = .next s1)
        ∧ (s.bus.clashFrame = false → f.sender = s.bus.address →
          let counted := s1.modCounters (fun n => { n with clashes := min (n.clashes + 1) 4294967295 })
          let waits := fun x : TxEntry =>
            x.onLine = false ∧ ∃ a : Alarm, x.msg = .alarm a ∧ a.kind = .addressClash
          ((∃ x ∈ s.bus.queue, waits x) → exec c s = .next counted)
          ∧ ((∀ x ∈ s.bus.queue, ¬ waits x) → exec c s = .next (counted.post .bus 31 (.alarm
            { kind := .addressClash, tree := 0, round := s.round, cause := some .received, home := 0
              serial := 0, generation := 0, relapses := 0, holdRuns := false, state := none
              figure := 0 })))))

/-- The receive filter on a sound frame of another station (R51, R52, R54, R187). Passed over: a kind
that no block takes, a frame to another station, a management request to all stations. A waiting chip
takes only SETTINGS and QUERY. A running chip counts a management request from outside the manager set
as refused. Of the rest, a body too short for its kind is counted bad; any other frame is counted as
taken, and its command is handed on. A QUERY with a subject above 2 spells no command; it is counted as
taken and answered DECLINED BAD_RANGE with its body as reference (R60). For every kind that is taken:
the length its body requires, the command it spells, and where in the body the fields of the command
stand (R183; the fields of SETTINGS are those of SettingsReadBackAndMessagesAreLaidOut); any other kind
requires and spells nothing. That a frame handed on waits in flight is the model's choice
(notes/assumptions/4.md), and so is what the DECLINED of an unknown subject echoes
(notes/assumptions/15.md). -/
def Obligations.FramesAreFilteredAndHandedOn : Prop :=
  (∀ (s : State) (bits : List Bool) (f : ShelfFrame),
     s.inReset = none → s.bus.lineSeen = true → s.bus.clashFrame = false →
     readFrame bits = some f → f.sender ≠ s.bus.address →
     let c := Instr.frameReceived bits
     let request := 0x11 ≤ f.kind ∧ f.kind ≤ 0x18
     let peer := f.kind = 0x02 ∨ f.kind = 0x03 ∨ f.kind = 0x04
     let forUs := (f.dest = s.bus.address ∧ (request ∨ peer ∨ f.kind = 0x10))
       ∨ (f.dest = 31 ∧ (peer ∨ f.kind = 0x10))
     let waiting := s.bus.chipState = .waitingSettings
     (¬ forUs → exec c s = .next s)
     ∧ (forUs → waiting → f.kind ≠ 0x10 → f.kind ≠ 0x18 → exec c s = .next s)
     ∧ (forUs → ¬ waiting → request → f.sender ∉ s.bus.managers →
       exec c s = .next (s.modCounters (fun n => { n with refused := min (n.refused + 1) 4294967295 })))
     ∧ (forUs → (waiting → f.kind = 0x10 ∨ f.kind = 0x18) →
         (¬ waiting → request → f.sender ∈ s.bus.managers) →
       ∀ needed, requiredLength f.kind = some needed →
         (f.body.length < needed →
           exec c s = .next (s.modCounters (fun n => { n with bad := min (n.bad + 1) 4294967295 })))
         ∧ (needed ≤ f.body.length → ∀ d, f.command = some d →
           exec c s = .next ((s.modCounters (fun n =>
             { n with taken := min (n.taken + 1) 4294967295 })).raise d))))
  ∧ (∀ (s : State) (bits : List Bool) (f : ShelfFrame),
       s.inReset = none → s.bus.lineSeen = true → s.bus.clashFrame = false →
       readFrame bits = some f → f.sender ≠ s.bus.address → f.dest = s.bus.address → f.kind = 0x18 →
       (s.bus.chipState = .waitingSettings ∨ f.sender ∈ s.bus.managers) → 12 ≤ f.body.length →
       let subject := natOfBytes (f.body.take 1)
       ((∃ d, f.command = some d) ↔ subject ≤ 2)
       ∧ (2 < subject → exec (.frameReceived bits) s =
           .next ((s.modCounters (fun n => { n with taken := min (n.taken + 1) 4294967295 })).post .bus
             f.sender (.declined (.query subject
               { form := natOfBytes ((f.body.drop 1).take 1), tree := natOfBytes ((f.body.drop 2).take 1)
                 index := natOfBytes ((f.body.drop 3).take 1)
                 serial := BitVec.ofNat 64 (natOfBytes ((f.body.drop 4).take 8)) }) .badRange none))))
  ∧ (∀ f : ShelfFrame,
       let number := fun off len : Nat => natOfBytes ((f.body.drop off).take len)
       let serial := BitVec.ofNat 64 (number 0 8)
       let query : QueryBody :=
         { form := number 1 1, tree := number 2 1, index := number 3 1
           serial := BitVec.ofNat 64 (number 4 8) }
       let spells := fun (kind length : Nat) (c : Instr) =>
         f.kind = kind → requiredLength f.kind = some length ∧ f.command = some c
       spells 0x02 6 (.demandReceived f.sender (number 0 2) (number 2 2) (number 4 2))
       ∧ spells 0x03 10 (.claimReceived f.sender serial (number 8 1) (number 9 1))
       ∧ spells 0x04 10 (.objectReceived f.sender serial (number 8 1) (number 9 1))
       ∧ spells 0x10 76 (.settings f.sender (settingsOfBytes f.body))
       ∧ spells 0x11 13 (.admission f.sender serial (number 8 1) (number 9 4))
       ∧ spells 0x12 8 (.refuse f.sender serial)
       ∧ spells 0x13 8 (.release f.sender serial)
       ∧ spells 0x14 8 (.dismiss f.sender serial)
       ∧ spells 0x15 4 (.read f.sender (number 0 1) (number 1 1) (number 2 1) (number 3 1))
       ∧ spells 0x16 1 (.confirm f.sender (number 0 1))
       ∧ spells 0x17 1 (.restart f.sender (number 0 1))
       ∧ (number 0 1 = 0 → spells 0x18 12 (.queryChip f.sender query))
       ∧ (number 0 1 = 1 → spells 0x18 12 (.queryTree f.sender query))
       ∧ (number 0 1 = 2 → spells 0x18 12 (.queryHome f.sender query))
       ∧ (f.kind = 0x18 → requiredLength f.kind = some 12)
       ∧ (f.kind ∉ [0x02, 0x03, 0x04, 0x10, 0x11, 0x12, 0x13, 0x14, 0x15, 0x16, 0x17, 0x18] →
           requiredLength f.kind = none ∧ f.command = none))

/-! ### The transmit queue (chapter 3) -/

/-- A message posted on a full queue (R56): by the class of the newcomer and what the queue holds off
the line, the youngest BULK entry, failing that the youngest NORMAL entry, gives way to it, or it is
dropped; the one lost adds 1 to the dropped messages and its producer is told; the queue holds as many
entries as before. Reports in flight and the record of outputs are the model's own
(notes/assumptions/4.md and 7.md). -/
def Obligations.FullQueueGivesWayByClass : Prop :=
  ∀ (s : State) (e : TxEntry), 16 ≤ s.bus.queue.length →
    (∀ x ∈ s.bus.queue, x.replacedBy e.msg = false) →
    let lost := fun (q : List TxEntry) (x : TxEntry) =>
      { s with
        bus := { s.bus with
          queue := q
          counters := { s.bus.counters with dropped := min (s.bus.counters.dropped + 1) 4294967295 } }
        outputs := .told .dropped x :: s.outputs
        inFlight := s.inFlight ++ (match x.handle with
          | some k => [.claimDroppedReport k.tree k.home k.generation]
          | none => []) }
    let holds := fun (c : MsgClass) (q : List TxEntry) => ∃ x ∈ q, x.cls = c ∧ x.onLine = false
    (∀ (older younger : List TxEntry) (x : TxEntry), s.bus.queue = older ++ x :: younger →
      x.onLine = false → ¬ holds x.cls younger →
      ((x.cls = .bulk ∧ e.cls ≠ .bulk)
        ∨ (x.cls = .normal ∧ e.cls = .urgent ∧ ¬ holds .bulk s.bus.queue)) →
      s.postEntry e = lost (older ++ younger ++ [e]) x)
    ∧ ((e.cls = .bulk ∨ (e.cls = .normal ∧ ¬ holds .bulk s.bus.queue)
        ∨ (¬ holds .bulk s.bus.queue ∧ ¬ holds .normal s.bus.queue)) →
      s.postEntry e = lost s.bus.queue e)
    ∧ (s.postEntry e).bus.queue.length = s.bus.queue.length

/-- A message posted with room joins as the youngest entry (R55), unless it is a DEMAND or a HELLO that
finds one of its kind waiting off the line: it replaces that one, whose producer is told REPLACED, on a
full queue as on any other, and no drop is counted (R57). The record of outputs is the model's own
(notes/assumptions/7.md). Which of two waiting ones is replaced is its choice too
(notes/assumptions/28.md). -/
def Obligations.NewcomerJoinsOrReplaces : Prop :=
  ∀ (s : State) (e : TxEntry),
    let sameKind := fun x : TxEntry =>
      (∃ c n k c' n' k', e.msg = .demand c n k ∧ x.msg = .demand c' n' k')
      ∨ ∃ a b c d a' b' c' d', e.msg = .hello a b c d ∧ x.msg = .hello a' b' c' d'
    ((∀ x ∈ s.bus.queue, ¬ (sameKind x ∧ x.onLine = false)) → s.bus.queue.length < 16 →
      s.postEntry e = s.modBus (fun b => { b with queue := b.queue ++ [e] }))
    ∧ ∀ (older younger : List TxEntry) (x : TxEntry), s.bus.queue = older ++ x :: younger →
      sameKind x → x.onLine = false → (∀ y ∈ younger, ¬ (sameKind y ∧ y.onLine = false)) →
      s.postEntry e = { s with
        bus := { s.bus with queue := older ++ younger ++ [e] }
        outputs := .told .replaced x :: s.outputs }

/-! ### Queries (chapters 2 and 3) -/

/-- QUERY CHIP (R60, R61): answered STATUS with the values as they stand in the event. QUERY TREE (R60,
R62): for a tree number up to 3 answered STATUS with the tree's figures, among them the number of its
records in each state and the sum of CR over its tiered records; for one above 3 DECLINED BAD_RANGE.
QUERY HOME (R42): by tree and index for a record of an enabled tree, or by a serial that is held,
answered STATUS with the record, whose timer shows the rounds remaining while it runs; a tree, index or
form out of range or a disabled tree is declined BAD_RANGE, and a serial held nowhere NOT_FOUND. A QUERY
handed on while the chip waited is answered though it runs by then. What an answer's reference echoes
and that a timer run out is shown as absent are the model's choices (notes/assumptions/31.md and 16.md).
-/
def Obligations.QueriesAreAnsweredFromTheState : Prop :=
  (∀ (s : State) (sender : Nat) (q : QueryBody), s.inReset = none → s.answersQuery (.queryChip sender q) sender = true →
     let held := fun c : MsgClass => (s.bus.queue.filter (fun e => decide (e.cls = c))).length
     exec (.queryChip sender q) s = .next ((s.take (.queryChip sender q)).post .bus sender
       (.status (.query 0 q) (.chip
         { round := s.round, address := s.bus.address, chipState := s.bus.chipState
           cause := s.bus.resetCause, enabled := if s.running then s.cfg.enabled else 0
           managers := s.bus.managers, urgent := held .urgent, normal := held .normal, bulk := held .bulk
           onLine := s.bus.queue.any (fun e => e.onLine), counters := s.bus.counters
           share := s.share.share, own := s.share.own.map (fun d => (d.committed, d.excess))
           peers := s.share.peers.length, readouts := s.meter.readouts.length
           departed := s.meter.departed.length, departedLoss := s.meter.departedLoss
           missedPickups := s.meter.missedPickups }))))
  ∧ (∀ (s : State) (sender : Nat) (q : QueryBody), s.inReset = none → s.answersQuery (.queryTree sender q) sender = true →
       let c := Instr.queryTree sender q
       (3 < q.tree → exec c s =
         .next ((s.take c).post .bus sender (.declined (.query 1 q) .badRange none)))
       ∧ ∀ t : TreeId, t.val = q.tree →
         let tr := s.tree t
         let inState := fun x : RecordState =>
           (allHomes.filter (fun h => decide ((s.record t h).state = x))).length
         exec c s = .next ((s.take c).post .bus sender (.status (.query 1 q) (.tree
           { round := s.round, tree := t, enabled := s.enabled t, light := tr.light.name
             byState := [inState .free, inState .claiming, inState .awaiting, inState .active
                        , inState .quenched, inState .barred, inState .lost]
             crSum := ((allHomes.filter (fun h => isTiered (s.record t h).state)).map
               (fun h => (s.ratesOf (s.record t h)).cr)).sum
             countdown := tr.enrol.countdown
             priority := (tr.tx.words.filter ControlWord.priority).length
             ordinary := (tr.tx.words.filter ControlWord.ordinary).length
             drops := tr.tx.drops, upDiscards := tr.upDiscards, downDiscards := tr.downDiscards
             lastLit := tr.rx.lastLit, garbled := tr.enrol.garbled, rangeBad := tr.enrol.rangeBad
             levelBad := tr.enrol.levelBad, tableFull := tr.enrol.tableFull }))))
  ∧ (∀ (s : State) (sender : Nat) (q : QueryBody), s.inReset = none → s.answersQuery (.queryHome sender q) sender = true →
       let c := Instr.queryHome sender q
       let answered := fun (t : TreeId) (h : HomeIdx) =>
         (s.take c).post .enrolment sender (.status (.query 2 q) (.home
           { round := s.round, tree := t, home := h
             record := { s.record t h with
               stateTimer := if (s.record t h).stateTimer = some 0 then none
                 else (s.record t h).stateTimer } }))
       let declined := fun reason =>
         (s.take c).post .enrolment sender (.declined (.query 2 q) reason none)
       (q.form = 0 → ∀ (t : TreeId) (h : HomeIdx), t.val = q.tree → h.val = q.index →
         (s.enabled t = true → exec c s = .next (answered t h))
         ∧ (s.enabled t = false → exec c s = .next (declined .badRange)))
       ∧ (q.form = 0 → (3 < q.tree ∨ 127 < q.index) → exec c s = .next (declined .badRange))
       ∧ (q.form = 1 → (∀ (t : TreeId) (h : HomeIdx), s.lookup q.serial = some (t, h) →
             exec c s = .next (answered t h))
           ∧ (s.lookup q.serial = none → exec c s = .next (declined .notFound)))
       ∧ (1 < q.form → exec c s = .next (declined .badRange)))

/-! ### Layouts (chapter 11) -/

/-- A frame whose fields are within their widths is read from the line as it was sent, with its marker
bits taken out again and its check found right, whatever follows it on the line (R45, R49, R182). A
burst header and a discovery reply whose fields are within their bytes are read as they were sent under
a correct check, whatever follows them, and not at all under any other (R14, R21, R182, R186). -/
def Obligations.FramesAndLightReadBackAsSent : Prop :=
  (∀ (cls sender dest kind : Nat) (body : List Byte) (rest : List Bool),
       cls < 4 → sender < 32 → dest < 32 → kind < 256 → body.length ≤ 240 →
       readFrame (frameBits cls sender dest kind body ++ rest)
         = some { cls := cls, sender := sender, dest := dest, kind := kind, body := body })
  ∧ (∀ (index backlog used check : Nat) (rest : List Byte),
       index < 256 → backlog < 65536 → used < 16777216 → check < 65536 →
       let covered := bytesOf 1 index ++ bytesOf 2 backlog ++ bytesOf 3 used
       readBurstHeader (covered ++ bytesOf 2 check ++ rest)
         = if check = checkOfBytes covered
           then some { index := index, backlog := backlog, bytesUsed := used } else none)
  ∧ (∀ (serial : Serial) (delay check : Nat) (rest : List Byte), delay < 256 → check < 65536 →
       let covered := bytesOf 8 serial.toNat ++ bytesOf 1 delay
       readReply (covered ++ bytesOf 2 check ++ rest)
         = if check = checkOfBytes covered then some (serial, delay) else none)

/-- The settings that an answer carries are read back as they stand, whatever follows them (R184). The
body of every message that the chip posts is laid out in the fields of R183, R185 and R186, its codes
numbered in the order that R183 lists; an answer opens with the kind and the reference of its request;
and so are laid out the round header, which ends in its check over the rest, and the control words
(R182, R186). The 01 of a flag that is set, the echo of the whole QUERY body and the bytes of a record
that its type leaves unused are the model's choices (notes/assumptions/30.md, 31.md and 17.md), and that
the presence and saturated flags count from the least significant bit is its reading
(notes/assumptions/16.md). -/
def Obligations.SettingsReadBackAndMessagesAreLaidOut : Prop :=
  (∀ (c : Settings) (rest : List Byte), c.wf = true →
       (settingsBytes c).length = 76 ∧ settingsOfBytes (settingsBytes c ++ rest) = c)
  ∧ (let state := fun x : RecordState =>
       [RecordState.free, .claiming, .awaiting, .active, .quenched, .barred, .lost].idxOf x
     let flag := fun x : Bool => if x then 1 else 0
     let signed := fun x : Int => (x % 65536).toNat
     let bits := fun l : List Bool => (l.zipIdx.map (fun x => if x.1 then 2 ^ x.2 else 0)).sum
     let counters := fun k : Counters =>
       [(1, bits [k.up.sat, k.down.sat, k.activeRounds.sat, k.throttledRounds.sat, k.impairedRounds.sat]),
         (4, k.up.val), (4, k.down.val), (4, k.activeRounds.val), (4, k.throttledRounds.val),
         (4, k.impairedRounds.val)]
     let request := fun x : SerialRequest =>
       0x11 + [SerialRequest.admission, .refuse, .release, .dismiss].idxOf x
     let opening : Reference → List (Nat × Nat) := fun ref =>
       match ref with
       | .settings => [(1, 0x10)]
       | .serial x serial => [(1, request x), (8, serial.toNat)]
       | .restart tree => [(1, 0x17), (1, tree)]
       | .read kind tree first count => [(1, 0x15), (1, kind), (1, tree), (1, first), (1, count)]
       | .confirm tag => [(1, 0x16), (1, tag)]
       | .query subject q => [(1, 0x18), (1, subject), (1, q.form), (1, q.tree), (1, q.index),
           (8, q.serial.toNat)]
     let reason := fun x : DeclineReason =>
       [DeclineReason.notFound, .wrongState, .capacity, .badTier, .badRange, .locked].idxOf x
     let inForce := fun c : Option Settings =>
       match c with
       | some c => settingsBytes c
       | none => []
     (∀ address cause chipState round,
       laidOut (Msg.hello address cause chipState round).body
         [(1, address), (1, [ResetCause.power, .pin].idxOf cause),
           (1, [ChipState.waitingSettings, .running].idxOf chipState), (2, round)])
     ∧ (∀ c e n, laidOut (Msg.demand c e n).body [(2, c), (2, e), (2, n)])
     ∧ (∀ serial t h, laidOut (Msg.claim serial t h).body
         [(8, serial.toNat), (1, t.val), (1, h.val)])
     ∧ (∀ serial tree index, laidOut (Msg.object serial tree index).body
         [(8, serial.toNat), (1, tree), (1, index)])
     ∧ (∀ serial t h rtt level, laidOut (Msg.found serial t h rtt level).body
         [(8, serial.toNat), (1, t.val), (1, h.val), (2, rtt), (2, signed level)])
     ∧ (∀ c : Clone, laidOut (Msg.clone c).body
         [(8, c.serial.toNat), (1, c.tree.val), (1, c.home.val), (1, state c.state), (1, c.contested),
           (1, [CloneSource.reply, .lateObjection, .objected].idxOf c.source), (1, c.replyTree),
           (2, c.rtt), (2, signed c.level), (1, c.peer)])
     ∧ (∀ q : QuotaNotice, laidOut (Msg.quota q).body
         [(8, q.serial.toNat), (1, q.tree.val), (1, q.home.val), (2, q.generation), (2, q.interval),
           (4, q.quota), (5, q.total), (2, q.round)])
     ∧ (∀ a : Alarm, laidOut (Msg.alarm a).body
         [(1, [AlarmKind.addressClash, .rogueScore, .relapseLimit, .searchStart, .rogueFound
              , .foreignLight].idxOf a.kind), (1, a.tree), (2, a.round),
           (1, (a.cause.map (fun x => [AlarmCause.sending, .received, .darkStreak, .retry, .ignoringDarken
              , .confirmed, .listEmpty, .verifyFailed].idxOf x)).getD 0), (1, a.home),
           (8, a.serial.toNat), (2, a.generation), (1, a.relapses), (1, flag a.holdRuns),
           (1, (a.state.map state).getD 0), (2, a.figure)])
     ∧ (∀ ref : Reference, ∃ head : List Byte, laidOut head (opening ref)
       ∧ (∀ c, (Msg.accepted ref c).body = head ++ inForce c)
       ∧ (∀ x c, (Msg.declined ref x c).body = head ++ [BitVec.ofNat 8 (reason x)] ++ inForce c)
       ∧ (∀ tag, laidOut (Msg.pending ref tag).body (opening ref ++ [(1, tag)]))
       ∧ (Msg.busy ref).body = head ∧ (Msg.stale ref).body = head
       ∧ (∀ tag first count records, ∃ fields : List Byte,
           laidOut fields [(1, tag), (1, first), (1, count), (1, records.length)]
           ∧ (Msg.data ref tag first count records).body
             = head ++ fields ++ records.flatMap DataRecord.bytes)
       ∧ ∀ x, (Msg.status ref x).body = head ++ x.bytes)
     ∧ (∀ serial t h generation interval k,
       laidOut (DataRecord.snapshot (.taken serial t h generation interval k)).bytes
         ([(1, 0), (1, t.val), (1, h.val), (1, 0), (8, serial.toNat), (2, generation), (2, interval),
           (1, 0)] ++ counters k))
     ∧ (∀ serial t h generation tag,
       laidOut (DataRecord.snapshot (.heldElsewhere serial t h generation tag)).bytes
         [(1, 1), (1, t.val), (1, h.val), (1, 0), (8, serial.toNat), (2, generation), (2, 0), (1, tag),
           (21, 0)])
     ∧ (∀ t h x, laidOut (DataRecord.snapshot (.empty t h x)).bytes
         [(1, 2), (1, t.val), (1, h.val), (1, state x), (34, 0)])
     ∧ (∀ d : DepartedRecord, laidOut (DataRecord.departed d).bytes
         ([(1, [DepartedReason.dismissed, .refused, .lostExpired, .yielded, .moved, .restart
              , .merged].idxOf d.reason), (1, d.tree.val), (1, d.home.val), (8, d.serial.toNat),
           (2, d.generation), (2, d.interval)] ++ counters d.counters))
     ∧ (∀ x : ChipStatus, laidOut (StatusBody.chip x).bytes
         [(2, x.round), (1, x.address), (1, [ChipState.waitingSettings, .running].idxOf x.chipState),
           (1, [ResetCause.power, .pin].idxOf x.cause), (1, x.enabled.toNat),
           (1, x.managers.getD 0 0x1F), (1, x.managers.getD 1 0x1F), (1, x.urgent), (1, x.normal),
           (1, x.bulk), (1, flag x.onLine), (4, x.counters.sent), (4, x.counters.taken),
           (4, x.counters.bad), (4, x.counters.refused), (4, x.counters.dropped),
           (4, x.counters.clashes), (4, x.counters.losses), (2, x.share),
           (2, (x.own.map (·.1)).getD 0xFFFF), (2, (x.own.map (·.2)).getD 0xFFFF), (1, x.peers),
           (1, x.readouts), (1, x.departed), (4, x.departedLoss), (4, x.missedPickups)])
     ∧ (∀ x : TreeStatus, laidOut (StatusBody.tree x).bytes
         ([(2, x.round), (1, x.tree.val), (1, flag x.enabled),
           (1, [LightName.clear, .search, .verify, .foreign, .off].idxOf x.light)]
           ++ x.byState.map (fun n => (1, n))
           ++ [(2, x.crSum), (1, x.countdown), (1, x.priority), (1, x.ordinary), (4, x.drops),
             (4, x.upDiscards), (4, x.downDiscards), (2, x.lastLit.getD 0xFFFF), (4, x.garbled),
             (4, x.rangeBad), (4, x.levelBad), (4, x.tableFull)]))
     ∧ (∀ x : HomeStatus,
       let r := x.record
       laidOut (StatusBody.home x).bytes
         [(2, x.round), (1, x.tree.val), (1, x.home.val),
           (3, bits [r.serial.isSome, r.tier.isSome, r.quota.isSome, r.rtt.isSome, r.eqd.isSome
              , r.enrolLevel.isSome, r.lastLevel.isSome, r.silence.isSome, r.stateTimer.isSome
              , r.contested.isSome, r.backlog.isSome, r.pollCountdown.isSome, r.throttled.isSome
              , r.rogueScore.isSome, r.relapses.isSome, r.testDark.isSome]),
           (1, state r.state), (2, r.generation), (8, (r.serial.getD 0).toNat),
           (1, (r.tier.map (·.val)).getD 0), (4, r.quota.getD 0), (2, r.rtt.getD 0),
           (2, r.eqd.getD 0), (2, signed (r.enrolLevel.getD 0)), (2, signed (r.lastLevel.getD 0)),
           (1, r.silence.getD 0), (3, r.stateTimer.getD 0), (1, r.contested.getD 0),
           (2, r.backlog.getD 0), (1, r.pollCountdown.getD 0), (1, flag (r.throttled.getD false)),
           (1, r.rogueScore.getD 0), (1, r.relapses.getD 0), (1, flag (r.testDark.getD false))])
     ∧ (∀ m : Msg, m.code = match m with
         | .hello _ _ _ _ => 0x01 | .demand _ _ _ => 0x02 | .claim _ _ _ => 0x03
         | .object _ _ _ => 0x04 | .found _ _ _ _ _ => 0x05 | .clone _ => 0x06 | .quota _ => 0x07
         | .alarm _ => 0x08 | .accepted _ _ => 0x20 | .declined _ _ _ => 0x21 | .pending _ _ => 0x22
         | .busy _ => 0x23 | .data _ _ _ _ _ => 0x24 | .stale _ => 0x25 | .status _ _ => 0x26)
     ∧ (∀ (round : Nat) (p : Plan) (words : List ControlWord), ∃ covered opening wordBytes : List Byte,
       headerBytes round p words = covered ++ bytesOf 2 (checkOfBytes covered)
       ∧ covered = opening ++ wordBytes ∧ wordBytes = words.flatMap ControlWord.bytes
       ∧ laidOut opening ([(2, round), (1, p.grants.length), (1, flag p.call), (1, words.length)]
           ++ p.grants.flatMap (fun g => [(1, g.home.val), (2, g.start), (2, g.payload)])))
     ∧ (∀ h serial eqd, laidOut (ControlWord.setDelay h serial eqd).bytes
         [(1, 0), (1, h.val), (8, serial.toNat), (2, eqd)])
     ∧ (∀ h, laidOut (ControlWord.darken h).bytes [(1, 1), (1, h.val)]
         ∧ laidOut (ControlWord.light h).bytes [(1, 2), (1, h.val)]
         ∧ laidOut (ControlWord.dismiss h).bytes [(1, 4), (1, h.val)])
     ∧ laidOut ControlWord.dismissAll.bytes [(1, 5)]
     ∧ ∀ (round : Nat) (homes : List HomeIdx), ∃ bitmap : List Byte, bitmap.length = 16
       ∧ (ControlWord.testDark round homes).bytes = 3 :: bitmap
       ∧ ∀ h : HomeIdx, (bitmap.getD (h.val / 8) 0).getLsbD (h.val % 8) = decide (h ∈ homes))

/-! ### Reset, start-up and the clock (chapters 1 and 10) -/

/-- A power-on reset and a pin reset begin at once, with an empty transmit queue, whose entries are lost
without a report, and no frame waiting at a Transmitter; a pin reset asserted during a power-on reset is
part of it, and a supply failing during a pin reset makes it a power-on reset (R172, R58, R24). The end
of a reset (R172, R44, R63, R121, R122, R157, R171, R174): the address is read from the straps, 31
clamped to 30; the chip waits for settings with the cause recorded, round 0, no manager, every counter
0, a HELLO posted and the countdown at 2500; every record is FREE with generation 0, every light state
OFF, every queue, table and index empty, the share 0 and the next tag 1. With no reset in progress
nothing happens. That a RESET_END without a reset changes nothing, and what stands while a reset lasts,
are the model's choices (notes/assumptions/6.md). -/
def Obligations.ResetsBeginAndEnd : Prop :=
  (∀ (s : State),
     let begun := fun cause : ResetCause =>
       { s with
         inReset := some cause
         bus := { s.bus with queue := [] }
         trees := tabulate (fun t =>
           { s.tree t with tx := { (s.tree t).tx with taken := [] } }) }
     exec .powerOnReset s = .next (begun .power)
     ∧ (s.inReset ≠ some .power → exec .pinReset s = .next (begun .pin))
     ∧ (s.inReset = some .power → exec .pinReset s = .next s))
  ∧ (∀ (s : State) (straps : Fin 32),
       (s.inReset = none → exec (.resetEnd straps) s = .next s)
       ∧ ∀ cause, s.inReset = some cause →
         ∃ u, exec (.resetEnd straps) s = .next u
           ∧ u.pending = s.pending ∧ u.outputs = s.outputs ∧ u.inFlight = [] ∧ u.inReset = none
           ∧ u.round = 0 ∧ u.buildDue = false ∧ u.epochDue = false
           ∧ u.bus =
             { chipState := .waitingSettings, resetCause := cause
               address := if straps.val = 31 then 30 else straps.val
               settings := none, managers := [], helloCountdown := some 2500, lineSeen := false
               clashFrame := false
               queue := [{ dest := 31
                           msg := .hello (if straps.val = 31 then 30 else straps.val) cause
                             .waitingSettings 0
                           producer := .bus, handle := none, clashes := 0, onLine := false }]
               counters := ⟨0, 0, 0, 0, 0, 0, 0⟩ }
           ∧ u.share = { epoch := 0, peers := [], own := none, share := 0 }
           ∧ u.treePointer = 0
           ∧ u.meter = { readouts := [], nextTag := 1, missedPickups := 0, departed := []
                         departedLoss := 0 }
           ∧ u.serialIndex = []
           ∧ ∀ t, (∀ h, u.home t h =
                 { record := HomeRecord.reset, reportSlot := none, trimHold := none, usage := none })
             ∧ (u.tree t).tx = { words := [], drops := 0, pendingPlans := [], sentPlan := none
                                 taken := [], lineRoom := 0 }
             ∧ (u.tree t).rx = { window := none, awaiting := [], lastLit := none }
             ∧ (u.tree t).enrol = ⟨0, 0, 0, 0, 0⟩ ∧ (u.tree t).homePointer = 0
             ∧ (u.tree t).light = .off ∧ (u.tree t).marks = []
             ∧ (u.tree t).upDiscards = 0 ∧ (u.tree t).downDiscards = 0
             ∧ (u.tree t).headerDue = false ∧ (u.tree t).receiveDue = false)

/-- The chip waiting, a SETTINGS from a station 0 to 30 other than itself is accepted (R175, R177,
R178): the clamped settings come into force, the manager set is the sender and a second manager that is
a station of its own, the chip runs with its initial share and epoch counter 0, the enabled trees go to
CLEAR, the HELLO countdown stops, and an ACCEPTED with the settings and then a HELLO are posted. A
SETTINGS taken while the chip runs is answered DECLINED LOCKED with the settings in force, and nothing
else changes; one from sender 31 or from the chip's own address has no effect in either state (R50,
R175, R177). The HELLO countdown at 0 (R174): a HELLO with the address, the reset cause, the chip state
and the round is posted to all stations and the countdown starts again at 2500; otherwise the event does
nothing. That the expiry event of the HELLO countdown is one of a countdown at 0, and does nothing
otherwise, is the model's choice (notes/assumptions/5.md). -/
def Obligations.SettingsStartTheChipOnce : Prop :=
  (∀ (s : State) (sender : Nat) (raw : Settings), s.inReset = none →
     s.bus.chipState = .waitingSettings → sender ≤ 30 → sender ≠ s.bus.address →
     let c := clampSettings raw
     let d := Instr.settings sender raw
     let trees := (allTrees.filter (fun t => c.enabled.getLsbD t.val)).length
     let started : State :=
       { s.take d with
         bus := { s.bus with
           chipState := .running, settings := some c, helloCountdown := none
           managers := if c.secondManager ≤ 30 ∧ c.secondManager ≠ s.bus.address
               ∧ c.secondManager ≠ sender
             then [sender, c.secondManager] else [sender] }
         share := { s.share with epoch := 0, share := min (3960 * trees) (c.capacity / 31) }
         trees := tabulate (fun t => if c.enabled.getLsbD t.val
           then { s.tree t with light := .clear 0 } else s.tree t) }
     exec d s = .next ((started.post .bus sender (.accepted .settings (some c))).post .bus 31
       (.hello s.bus.address s.bus.resetCause .running s.round)))
  ∧ (∀ (s : State) (sender : Nat) (raw : Settings), s.inReset = none →
       (s.bus.chipState = .running → sender ≤ 30 → sender ≠ s.bus.address →
         exec (.settings sender raw) s = .next ((s.take (.settings sender raw)).post .bus sender
           (.declined .settings .locked s.bus.settings)))
       ∧ (30 < sender ∨ sender = s.bus.address →
         exec (.settings sender raw) s = .next (s.take (.settings sender raw))))
  ∧ (∀ (s : State), s.inReset = none →
       (s.bus.helloCountdown = some 0 → exec .helloCountdownExpiry s =
         .next ((s.post .bus 31 (.hello s.bus.address s.bus.resetCause s.bus.chipState s.round)).modBus
           (fun b => { b with helloCountdown := some 2500 })))
       ∧ (s.bus.helloCountdown ≠ some 0 → exec .helloCountdownExpiry s = .next s))

/-- Clamping (R176): a number below its range becomes the lower bound and one above it the upper bound;
the result is in range, and settings in range are kept as sent. -/
def Obligations.SettingsAreClampedToTheirRanges : Prop :=
  ∀ raw : Settings,
    (∀ p ∈ settingRanges, (p.1 raw < p.2.1 → p.1 (clampSettings raw) = p.2.1)
      ∧ (p.2.2 < p.1 raw → p.1 (clampSettings raw) = p.2.2)
      ∧ (p.2.1 ≤ p.1 raw → p.1 raw ≤ p.2.2 → p.1 (clampSettings raw) = p.1 raw))
    ∧ (∀ k : Fin 8,
      let r := raw.tiers.get k
      (clampSettings raw).tiers.get k
        = ⟨min r.cr 2000, if 3000 < r.pr then 3000 else if r.pr < min r.cr 2000 then min r.cr 2000
            else r.pr⟩)
    ∧ (raw.enabled = 0 → (clampSettings raw).enabled = 1)
    ∧ (raw.enabled ≠ 0 → (clampSettings raw).enabled = raw.enabled)
    ∧ (clampSettings raw).aliasOn = raw.aliasOn
    ∧ (let near := fun x : Int => if x < -400 then -400 else if -50 < x then -50 else x
      (clampSettings raw).litLevel = near raw.litLevel
        ∧ (clampSettings raw).levelMin = min (near raw.levelMin) (near raw.levelMax)
        ∧ (clampSettings raw).levelMax = max (near raw.levelMin) (near raw.levelMax))
    ∧ settingsInRange (clampSettings raw) ∧ (settingsInRange raw → clampSettings raw = raw)

/-- A round opening (R1, R36, R84, R86, R108, R129, R142, R158, R174): the round number gains 1 modulo
65536; every running timer of a record, a trim hold, a foreign tree, a readout and the HELLO countdown
loses 1; the mark of the round before last goes; a plan build is due while the chip runs, an epoch end
at every 32nd opening, a header and a block 1600 on each enabled tree; nothing else changes. The events
due are the model's convention (notes/assumptions/5.md), the line's room too (notes/assumptions/14.md).
-/
def Obligations.RoundOpeningAdvancesEveryTimer : Prop :=
  ∀ (s : State), s.inReset = none →
    let round := (s.round + 1) % 65536
    let less := fun timer : Option Nat => timer.map (fun n => n - 1)
    exec .roundOpening s = .next
      { s with
        round := round
        buildDue := s.running
        epochDue := s.epochDue || (s.running && decide (s.share.epoch + 1 = 32))
        share := { s.share with
          epoch := if s.running then (s.share.epoch + 1) % 32 else s.share.epoch }
        bus := { s.bus with helloCountdown := less s.bus.helloCountdown }
        meter := { s.meter with
          readouts := s.meter.readouts.map (fun e => { e with timer := less e.timer }) }
        trees := tabulate (fun t =>
          { s.tree t with
            homes := tabulate (fun h => { s.home t h with
              record := { s.record t h with stateTimer := less (s.record t h).stateTimer }
              trimHold := less (s.home t h).trimHold })
            light := match (s.tree t).light with
              | .foreign n => .foreign (n - 1)
              | l => l
            marks := (s.tree t).marks.filter (fun m => decide ((m.round + 2) % 65536 ≠ round))
            tx := { (s.tree t).tx with lineRoom := 0 }
            headerDue := s.enabled t
            receiveDue := s.enabled t }) }

/-- RESTART of an enabled tree (R12, R43, R65, R106, R144, R170, R179): every record that is not FREE is
freed, the tiered ones handed off in ascending order, after which the tree's PREPARING and READY
readouts are ended; the control-word queue holds one DISMISS-ALL, pending plans are emptied, the
discovery countdown and the home pointer are 0 and the light state is CLEAR; the answer is ACCEPTED and
nothing else changes. A disabled tree or a number above 3 is declined BAD_RANGE. That each snapshot
stands on its own tree is kept by every step (EveryStepKeepsTheReadouts). -/
def Obligations.RestartEmptiesTheTree : Prop :=
  ∀ (s : State) (sender : Nat), s.inReset = none → s.obeys sender = true →
    (∀ t : TreeId, s.enabled t = true → s.snapshotsStand →
      ∃ u, exec (.restart sender t.val) s = .next u
        ∧ (∀ h, u.home t h = if (s.record t h).state = .free
            then { s.home t h with record := { s.record t h with testDark := none } }
            else { record := (s.record t h).emptied none, reportSlot := none, trimHold := none
                   usage := s.usageAfterHandOff t h })
        ∧ u.meter = s.meter.readouts.foldl (Meter.endReadout t) (s.meterAfterHandOffs t .restart)
        ∧ (u.tree t).tx = { (s.tree t).tx with
            words := [.dismissAll]
            pendingPlans := (s.tree t).tx.pendingPlans.map
              (fun p => { round := p.round, grants := [], call := false }) }
        ∧ (u.tree t).light = .clear 0
        ∧ (u.tree t).enrol = { (s.tree t).enrol with countdown := 0 } ∧ (u.tree t).homePointer = 0
        ∧ (u.tree t).rx = (s.tree t).rx ∧ (u.tree t).marks = (s.tree t).marks
        ∧ (u.tree t).upDiscards = (s.tree t).upDiscards
        ∧ (u.tree t).downDiscards = (s.tree t).downDiscards
        ∧ (u.tree t).headerDue = (s.tree t).headerDue ∧ (u.tree t).receiveDue = (s.tree t).receiveDue
        ∧ (∀ v, v ≠ t → u.tree v = s.tree v)
        ∧ u.serialIndex = s.serialIndex.filter (fun e =>
            !(decide (e.tree = t) && decide ((s.record t e.home).state ≠ .free)))
        ∧ s.sameChip u
        ∧ ((s.take (.restart sender t.val)).post .enrolment sender
            (.accepted (.restart t.val) none)).sameTraffic u)
    ∧ ∀ tree : Nat, (3 < tree ∨ ∃ t : TreeId, t.val = tree ∧ s.enabled t = false) →
      exec (.restart sender tree) s = .next ((s.take (.restart sender tree)).post .enrolment sender
        (.declined (.restart tree) .badRange none))

/-! ### Upstream grant planning (chapter 5) -/

/-- A plan build (R86 to R92, R94, R104, R131, R132): each enabled tree is handed one plan, for the
round after next, which grants once each served home of ACTIVE records not test-dark, in ascending index
and with its generation, and calls when the discovery decision says so; backlogs, poll countdowns and
report slots of ACTIVE records move on, a mark is made, a CHOSEN search step gets its TEST-DARK; nothing
else changes but the pointers (CommittedAndExcessAreDivided says how they move and what each grant
holds). With no build due nothing happens. That the third plan pending displaces the oldest
(notes/assumptions/11.md), which homes a mark names (notes/assumptions/19.md) and the build being due
(notes/assumptions/5.md) are the model's choices. -/
def Obligations.PlanBuildServesEachEnabledTree : Prop :=
  ∀ (s : State), s.inReset = none →
    (s.buildDue = false ∨ s.running = false → exec .planBuild s = .next s)
    ∧ (s.buildDue = true → s.running = true →
      ∃ u, exec .planBuild s = .next u
        ∧ u = { s with buildDue := false, treePointer := u.treePointer, trees := u.trees }
        ∧ (∀ t, s.enabled t = false → u.tree t = s.tree t)
        ∧ ∀ t, s.enabled t = true →
          let a := s.tree t
          let b := u.tree t
          let left := a.enrol.countdown - 1
          let clear := ∃ n, a.light = .clear n
          let free := ∃ h, (s.record t h).state = .free
          ∃ p : Plan, p.round = (s.round + 2) % 65536
            ∧ (∀ h, (∃ g ∈ p.grants, g.home = h) ↔ s.toServe t h)
            ∧ p.grants.Pairwise (fun g k => g.home < k.home)
            ∧ (∀ g ∈ p.grants, g.generation = (s.record t g.home).generation)
            ∧ (p.call = true ↔ left = 0 ∧ clear ∧ free)
            ∧ b.enrol = { a.enrol with countdown := if p.call then s.cfg.callEvery else left }
            ∧ (∀ h, (s.record t h).state ≠ .active → b.home h = a.home h)
            ∧ (∀ h, (s.record t h).state = .active →
                (∀ g ∈ p.grants, g.home = h → b.home h = { a.home h with
                  record := { s.record t h with
                    backlog := some ((a.home h).reportSlot.getD
                      ((s.record t h).backlog.getD 0 - g.payload))
                    pollCountdown := some (s.cfg.pollEvery - 1) },
                  reportSlot := none })
                ∧ (¬ s.toServe t h → b.home h = { a.home h with
                  record := { s.record t h with
                    backlog := some ((a.home h).reportSlot.getD ((s.record t h).backlog.getD 0))
                    pollCountdown := some ((s.record t h).pollCountdown.getD 0 - 1) },
                  reportSlot := none }))
            ∧ (∃ m : Mark, b.marks = a.marks ++ [m] ∧ m.round = p.round
                ∧ (m.notClear = true ↔ ¬ clear)
                ∧ ∀ h, h ∈ m.testDark ↔ (s.record t h).state = .active
                    ∧ (s.record t h).testDark = some true)
            ∧ b.rx = a.rx ∧ b.upDiscards = a.upDiscards ∧ b.downDiscards = a.downDiscards
            ∧ b.headerDue = a.headerDue ∧ b.receiveDue = a.receiveDue
            ∧ (let tx := { a.tx with
                pendingPlans := (a.tx.pendingPlans ++ [p]).drop (a.tx.pendingPlans.length - 1) }
              (∀ d, a.light = .search d → d.phase = .chosen →
                b.tx = (tx.push (.testDark p.round d.testHalf)).1
                ∧ b.light = .search { d with
                    phase := (if (tx.push (.testDark p.round d.testHalf)).2 then .void p.round
                      else .testing p.round) })
              ∧ ((∀ d, a.light = .search d → d.phase ≠ .chosen) → b.tx = tx ∧ b.light = a.light)))

/-- The payloads of one build (R102), with the settings in range: no home gets more than its whole
demand, so none more than its backlog on record or than its tier and throttle allow; each tree's
payloads keep to its room of 3960 blocks less the window and 2 for each grant; over the chip they never
exceed the share. That the settings are in range while the chip runs is kept by every step
(EveryStepKeepsTheChip). -/
def Obligations.PayloadsKeepToDemandRoomAndShare : Prop :=
  ∀ (s u : State), s.inReset = none → s.buildDue = true → s.running = true →
    settingsInRange s.cfg → exec .planBuild s = .next u →
    (∀ t, s.enabled t = true →
      (∀ g ∈ (u.lastPlan t).grants, ∀ tier, (s.record t g.home).tier = some tier →
        g.payload ≤ (s.record t g.home).backlog.getD 0
        ∧ g.payload ≤ (s.rates tier).pr
        ∧ ((s.record t g.home).throttled = some true → g.payload ≤ (s.rates tier).cr))
      ∧ (u.lastPlan t).payload + 2 * (u.lastPlan t).grants.length
          + (if (u.lastPlan t).call then 2000 else 0) ≤ 3960)
    ∧ ((allTrees.filter s.enabled).map (fun t => (u.lastPlan t).payload)).sum ≤ s.share.share

/-- Placement (R103): in every plan built, the bursts stand in ascending index from block 0, each from
where the one before it ended, a burst taking 2 blocks and its payload, and the last ends before the
window of a discovery round, or before the dark tail. -/
def Obligations.BurstsStandEndToEnd : Prop :=
  ∀ (s u : State) (t : TreeId), s.inReset = none → s.buildDue = true → s.enabled t = true →
    exec .planBuild s = .next u →
    ∀ (before after : List Grant) (g : Grant), (u.lastPlan t).grants = before ++ g :: after →
      g.start = (before.map (fun k => 2 + k.payload)).sum
      ∧ (∀ k ∈ after, g.home < k.home ∧ g.start + 2 + g.payload ≤ k.start)
      ∧ g.start + 2 + g.payload ≤ if (u.lastPlan t).call then 1960 else 3960

/-- The committed stage (R96, R97): a tree whose committed total is within its room, and a chip whose
total is within the share, keep their figures; one over it has each figure c made the floor of c times
the room (or share) over the total, is marked as scaled, and then keeps within it, short by less than
the number of figures whose product did not divide; excess demands stand throughout. The division of a
pool among claimants with different keys (R99, R100): when they want no more than the pool, each gets
what it wants and the pointer stands; otherwise the pool is spent whole, each getting the floor of its
part or one block more and never more than it wants, the blocks more going, one each, to the first
claimants short of their want in a visit from the pointer round, and the pointer moves past the last of
them, or stands where there is none. What a plan build makes of them (R93 to R100, R102): each enabled
tree's served homes, with the committed and excess demand of R93, are fitted to the tree's room and then
to the share; the spare room and the pool are what R98 leaves; the pool is divided among the trees from
the tree pointer, and each tree's part among its homes from its home pointer; each grant's payload is
the home's committed figure and its part of the excess, and both pointers move as the divisions say. -/
def Obligations.CommittedAndExcessAreDivided : Prop :=
  ((∀ (b : TreeBuild),
     let total := (b.asks.map Ask.committed).sum
     let room := 4000 - 40 - (if b.call then 2000 else 0) - 2 * b.asks.length
     (total ≤ room → b.fit = b)
     ∧ (room < total →
       b.fit = { b with
         asks := b.asks.map (fun a => { a with committed := a.committed * room / total }), scaled := true }
       ∧ (b.fit.asks.map Ask.committed).sum ≤ room
       ∧ ((b.fit.asks.map Ask.committed).sum = room
         ∨ room - (b.fit.asks.map Ask.committed).sum
           < (b.asks.filter (fun a => decide (a.committed * room % total ≠ 0))).length)))
   ∧ ∀ (share : Nat) (bs : List TreeBuild),
     let total := (bs.map (fun b => (b.asks.map Ask.committed).sum)).sum
     (total ≤ share → fitShare share bs = (bs, false))
     ∧ (share < total →
       fitShare share bs = (bs.map (fun b => { b with
         asks := b.asks.map (fun a => { a with committed := a.committed * share / total }) }), true)
       ∧ (((fitShare share bs).1.map (fun b => (b.asks.map Ask.committed).sum)).sum ≤ share)))
  ∧ (∀ (modulus pointer pool : Nat) (l : List Want),
       l.Pairwise (fun a b => a.key < b.key) →
       let total := (l.map Want.want).sum
       let part := fun w : Want => pool * w.want / total
       (total ≤ pool → (∀ w ∈ l, allot pointer pool l w = w.want)
         ∧ pointerAfter modulus pointer pool l = pointer)
       ∧ (pool < total →
         (l.map (allot pointer pool l)).sum = pool
         ∧ (∀ w ∈ l, part w ≤ allot pointer pool l w ∧ allot pointer pool l w ≤ part w + 1
             ∧ allot pointer pool l w ≤ w.want)
         ∧ (∀ w ∈ l, ∀ v ∈ l, part w < w.want → allot pointer pool l w = part w →
             allot pointer pool l v = part v + 1 →
             (pointer ≤ v.key ∧ (v.key < w.key ∨ w.key < pointer))
               ∨ (v.key < w.key ∧ w.key < pointer))
         ∧ (∀ v ∈ l, allot pointer pool l v = part v + 1 →
             (∀ w ∈ l, allot pointer pool l w = part w + 1 → w ≠ v →
               (pointer ≤ w.key ∧ (w.key < v.key ∨ v.key < pointer))
                 ∨ (w.key < v.key ∧ v.key < pointer)) →
             pointerAfter modulus pointer pool l = (v.key + 1) % modulus)
         ∧ ((∀ w ∈ l, allot pointer pool l w = part w) →
             pointerAfter modulus pointer pool l = pointer)))
  ∧ (∀ (s u : State), s.inReset = none → s.buildDue = true → s.running = true →
       exec .planBuild s = .next u →
       let committedOf := fun r : HomeRecord => min (r.backlog.getD 0) (s.ratesOf r).cr
       let wholeOf := fun r : HomeRecord => min (r.backlog.getD 0)
         (if r.throttled = some true then (s.ratesOf r).cr else (s.ratesOf r).pr)
       let served := fun (t : TreeId) (h : HomeIdx) =>
         decide ((s.record t h).state = .active) && decide ((s.record t h).testDark ≠ some true)
           && (decide (0 < wholeOf (s.record t h))
             || decide ((s.record t h).pollCountdown.getD 0 = 0))
       let fitted := (allTrees.filter s.enabled).map (fun t => TreeBuild.fit
         { tree := t, call := (u.lastPlan t).call, scaled := false
           asks := (allHomes.filter (served t)).map (fun h =>
             { home := h, generation := (s.record t h).generation
               committed := committedOf (s.record t h)
               excess := wholeOf (s.record t h) - committedOf (s.record t h) }) })
       let chip := fitShare s.share.share fitted
       let committed := fun b : TreeBuild => (b.asks.map Ask.committed).sum
       let spare := fun b : TreeBuild => if b.scaled then 0
         else 4000 - 40 - (if b.call then 2000 else 0) - 2 * b.asks.length - committed b
       let pool := if chip.2 then 0 else s.share.share - (chip.1.map committed).sum
       let want := fun b : TreeBuild =>
         Want.mk b.tree.val (min (b.asks.map Ask.excess).sum (spare b))
       u.treePointer.val = pointerAfter 4 s.treePointer.val pool (chip.1.map want)
       ∧ ∀ b ∈ chip.1,
         let part := allot s.treePointer.val pool (chip.1.map want) (want b)
         let pointer := (s.tree b.tree).homePointer.val
         let wants := b.asks.map (fun a => Want.mk a.home.val a.excess)
         (u.tree b.tree).homePointer.val = pointerAfter 128 pointer part wants
         ∧ (u.lastPlan b.tree).grants.map (fun g => (g.home, g.payload))
           = b.asks.map (fun a =>
               (a.home, a.committed + allot pointer part wants (Want.mk a.home.val a.excess))))

/-! ### The tree side (chapter 1) -/

/-- The round header of an enabled tree whose header is due (R3, R5, R6, R11, R13, R138): the pending
plan for the next round, or an empty one, goes out with the words taken for it, becomes the sent plan
and joins the plans awaiting their windows; a DARKEN for the verified home sets a missing start round;
then the words of the two indices that the round renews are queued. Homes and other trees stand. With no
header due nothing happens. That the third plan awaiting its window displaces the oldest
(notes/assumptions/11.md), the line's room (notes/assumptions/14.md), the header being due
(notes/assumptions/5.md) and the record of outputs (notes/assumptions/7.md) are the model's choices. -/
def Obligations.RoundHeaderCarriesPlanAndWords : Prop :=
  ∀ (s : State) (t : TreeId), s.inReset = none →
    let a := s.tree t
    let covered := (s.round + 1) % 65536
    let words := wordsFor covered a.tx.words
    let renew := fun (tx : Transmitter) (h : HomeIdx) =>
      match (s.record t h).state with
      | .quenched | .barred => (tx.push (.darken h)).1
      | .active => (tx.push (.light h)).1
      | .free => (tx.push (.dismiss h)).1
      | .claiming | .awaiting | .lost => tx
    (a.headerDue = false ∨ s.enabled t = false → exec (.roundHeader t) s = .next s)
    ∧ (a.headerDue = true → s.enabled t = true →
      ∀ p : Plan, (a.tx.pendingPlans.find? (fun q => decide (q.round = covered)) = some p
          ∨ (a.tx.pendingPlans.find? (fun q => decide (q.round = covered)) = none
            ∧ p = { round := covered, grants := [], call := false })) →
      ∀ h k : HomeIdx, h.val = 2 * (s.round % 64) → k.val = 2 * (s.round % 64) + 1 →
      ∃ u, exec (.roundHeader t) s = .next u
        ∧ u = { s with
            outputs := .header t (headerBytes s.round p words) :: s.outputs
            trees := u.trees }
        ∧ (∀ v, v ≠ t → u.tree v = s.tree v)
        ∧ u.tree t = { a with
            tx := renew (renew { a.tx with
                words := wordsLeft covered a.tx.words
                pendingPlans := a.tx.pendingPlans.filter (fun q => decide (q.round ≠ covered))
                sentPlan := some p
                lineRoom := 500000 - (headerBytes s.round p words).length } h) k
            rx := { a.rx with
              awaiting := (a.rx.awaiting ++ [p]).drop (a.rx.awaiting.length - 1) }
            light := (u.tree t).light
            headerDue := false }
        ∧ (∀ v, a.light = .verify v → v.startRound = none → .darken v.home ∈ words →
            (u.tree t).light = .verify { v with startRound := some covered })
        ∧ ((∀ v, a.light = .verify v → v.startRound ≠ none ∨ .darken v.home ∉ words) →
            (u.tree t).light = a.light))

/-- The words a header takes (R8, R10): at most 16; first the TEST-DARK of its own map, then PRIORITY
words, then ORDINARY words; in each class the words that stood in the queue are those taken followed by
those left, so the oldest go first; a TEST-DARK of another map stays queued; what is not taken stays in
its order; and a word that the header may carry stays only where 16 were taken. A word queued (R8, R9):
with fewer than 160 words it joins as the youngest; on a full queue a PRIORITY newcomer displaces the
youngest ORDINARY word, and any other newcomer is dropped; each word removed or dropped counts one drop.
-/
def Obligations.WordsAreQueuedAndSentByClass : Prop :=
  (∀ (round : Nat) (words : List ControlWord),
     let taken := wordsFor round words
     let left := wordsLeft round words
     let rank : ControlWord → Nat := fun w =>
       match w with
       | .testDark m _ => if m = round then 0 else 3
       | .darken _ | .light _ | .dismissAll => 1
       | .setDelay _ _ _ | .dismiss _ => 2
     taken.length ≤ 16 ∧ (taken ++ left).Perm words ∧ left.Sublist words
     ∧ taken.Pairwise (fun v w => rank v ≤ rank w)
     ∧ (∀ k, words.filter (fun w => decide (rank w = k))
         = taken.filter (fun w => decide (rank w = k)) ++ left.filter (fun w => decide (rank w = k)))
     ∧ (∀ w ∈ taken, rank w ≤ 2)
     ∧ (taken.length < 16 → ∀ w ∈ left, rank w = 3)
     ∧ (∀ v ∈ taken, ∀ w ∈ left, rank v ≤ rank w))
  ∧ (∀ (tx : Transmitter) (w : ControlWord),
       let drops := min (tx.drops + 1) 4294967295
       (tx.words.length < 160 → (tx.push w).1 = { tx with words := tx.words ++ [w] })
       ∧ (160 ≤ tx.words.length → w.priority = true →
         (∀ (older younger : List ControlWord) (x : ControlWord), tx.words = older ++ x :: younger →
           x.priority = false → (∀ y ∈ younger, y.priority = true) →
           (tx.push w).1 = { tx with words := older ++ younger ++ [w], drops := drops })
         ∧ ((∀ x ∈ tx.words, x.priority = true) →
           tx.push w = ({ tx with drops := drops }, true)))
       ∧ (160 ≤ tx.words.length → w.priority = false → tx.push w = ({ tx with drops := drops }, true)))

/-- Block 1600 on an enabled tree (R13, R16, R19, R20): an open window closes, and its lit count, the
blocks below 3960 that are lit and dark under its plan and in no overrun span, is handed with its round
to the Monitor and the Meter and kept as the last lit count; then the plan awaiting the present round,
if one does, opens its window with nothing found. Not due, nothing happens. That it is due once a round
(notes/assumptions/5.md), that the levels come with this command (notes/assumptions/8.md), that every
block touched by the span of an overrun test is out of the count (notes/assumptions/9.md), and that
grants not settled by then get no outcome (notes/assumptions/25.md) are the model's choices. -/
def Obligations.WindowClosesAndTheNextOpens : Prop :=
  ∀ (s : State) (t : TreeId) (levels : List Int), s.inReset = none → levels.length = 3960 →
    let a := s.tree t
    let opened := fun x : State => x.modTree t (fun tr =>
      match a.rx.awaiting.find? (fun p => decide (p.round = s.round)) with
      | some p => { tr with
          receiveDue := false
          rx := { tr.rx with
            awaiting := a.rx.awaiting.erase p
            window := some { plan := p, headers := [], settled := 0, lit := 0, testSpans := []
                             replyStep := 0, replyBlind := false } } }
      | none => { tr with receiveDue := false })
    (a.receiveDue = false ∨ s.enabled t = false → exec (.roundReceiveEnd t levels) s = .next s)
    ∧ (a.receiveDue = true → s.enabled t = true →
      (a.rx.window = none → exec (.roundReceiveEnd t levels) s = .next (opened s))
      ∧ ∀ w, a.rx.window = some w →
        let inBurst := fun b : Nat => w.plan.grants.any (fun g =>
          decide (g.start ≤ b ∧ b ≤ g.start + 2 + g.payload))
        let inCall := fun b : Nat => w.plan.call && decide (1960 ≤ b)
        let inTest := fun b : Nat => w.testSpans.any (fun (span : Int) =>
          decide (span < 8 * ((b : Int) + 1) ∧ 8 * (b : Int) < span + 8))
        let count := w.lit + ((List.range 3960).filter (fun b =>
          decide (s.cfg.litLevel ≤ levels.getD b 0) && !inBurst b && !inCall b && !inTest b)).length
        exec (.roundReceiveEnd t levels) s = .next (opened
          (((s.modTree t (fun tr => { tr with
              rx := { tr.rx with window := none, lastLit := some count } })).monitorReceiveEnd
            t w.plan.round (decide (s.cfg.darkLitMin ≤ count))).meterReceiveEnd t w.plan.round)))

/-- The outcome of a grant from the header it takes (R15, R16, R17): with none GARBLED or SILENT by the
light of its header block; naming another index WRONG-HOME; else ARRIVED within 4 steps, DRIFTED within
16, MISPLACED beyond, with the OVERRUN mark by the light after the burst's end, but for a burst of a
discovery round that runs up to the window, which is not tested. The header that a grant takes (R14): a
header is good for a grant when its check is correct, it claims no more bytes than the grant holds, it
lies within 64 steps of the grant's planned header position, and no other grant's position is nearer,
nor as near and earlier in the plan. A header taken is one found that is good for the grant, and no
other good one is nearer, nor as near and earlier in time; none is taken only where none found is good;
and a good one that comes before every other in that order is taken. -/
def Obligations.GrantOutcomeFollowsItsHeader : Prop :=
  (∀ (litLevel : Int) (p : Plan) (g : Grant) (found : List FoundHeader) (light : BurstLight),
     let clamped := fun x : Int => if x < -400 then -400 else if -50 < x then -50 else x
     let out := settleGrant litLevel p g found light
     (p.headerTaken g found = none →
       (litLevel ≤ light.headerBlockLevel → out = (.garbled (clamped light.headerBlockLevel), none))
       ∧ (light.headerBlockLevel < litLevel → out = (.silent, none)))
     ∧ ∀ f b, p.headerTaken g found = some (f, b) →
       (b.index ≠ g.home.val → out = (.wrongHome b.index (clamped f.level), none))
       ∧ (b.index = g.home.val →
         let offset := f.pos - 8 * ((g.start : Int) + 1)
         let timing := if -4 ≤ offset ∧ offset ≤ 4 then Timing.arrived
           else if -16 ≤ offset ∧ offset ≤ 16 then .drifted else .misplaced
         (p.call = true ∧ 1960 ≤ g.start + 2 + g.payload →
           out = (.good timing false offset (clamped f.level) b.backlog b.bytesUsed, none))
         ∧ (p.call = false ∨ g.start + 2 + g.payload < 1960 →
           out = (.good timing (decide (litLevel ≤ light.afterLevel)) offset (clamped f.level) b.backlog
               b.bytesUsed, some (f.pos + 8 * (1 + (g.payload : Int)))))))
  ∧ (∀ (p : Plan) (g : Grant) (found : List FoundHeader),
       let away := fun (x : Grant) (pos : Int) => (pos - 8 * ((x.start : Int) + 1)).natAbs
       let good := fun (f : FoundHeader) (b : BurstHeader) =>
         readBurstHeader f.bytes = some b ∧ b.bytesUsed ≤ 32 * g.payload ∧ away g f.pos ≤ 64
         ∧ ∃ before after : List Grant, p.grants = before ++ g :: after
           ∧ (∀ k ∈ before, away g f.pos < away k f.pos) ∧ ∀ k ∈ after, away g f.pos ≤ away k f.pos
       (∀ f b, p.headerTaken g found = some (f, b) →
         f ∈ found ∧ good f b
         ∧ ∀ f' ∈ found, ∀ b', good f' b' →
             away g f.pos < away g f'.pos ∨ (away g f.pos = away g f'.pos ∧ f.pos ≤ f'.pos))
       ∧ (p.headerTaken g found = none → ∀ f ∈ found, ∀ b, ¬ good f b)
       ∧ (∀ f ∈ found, ∀ b, good f b →
           (∀ f' ∈ found, f' ≠ f → ∀ b', good f' b' →
             away g f.pos < away g f'.pos ∨ (away g f.pos = away g f'.pos ∧ f.pos < f'.pos)) →
           p.headerTaken g found = some (f, b)))

/-- An arrival of a record that is FREE or holds another generation is stale (R18, R22): the window has
settled the grant, the tree's upstream discards gain 1, and nothing else changes. With no open window,
or no grant of it left, there is no arrival. A header-good arrival that is not stale: its level is kept;
an ACTIVE record's silence is cleared and its report slot filled (R30, R32, R90); a DRIFTED or MISPLACED
one outside the trim hold is re-trimmed by its offset, with a SET-DELAY and a hold of 16 rounds (R83,
R84); its score rises by 4 for MISPLACED or OVERRUN and else falls by 1, and a crossing of SCORE_LIMIT
sends a quench request (R123, R125); the payload goes up and the Meter counts it (R22, R146). -/
def Obligations.ArrivalIsTakenOrDiscarded : Prop :=
  (∀ (s : State) (t : TreeId) (light : BurstLight), s.inReset = none →
     let c := Instr.arrival t light
     ((s.tree t).rx.window = none → exec c s = .next s)
     ∧ ∀ w, (s.tree t).rx.window = some w →
       (w.plan.grants.length ≤ w.settled → exec c s = .next s)
       ∧ ∀ g, w.plan.grants[w.settled]? = some g →
         (s.record t g.home).state = .free ∨ (s.record t g.home).generation ≠ g.generation →
         let found := w.headers ++ light.headers
         let out := settleGrant s.cfg.litLevel w.plan g found light
         exec c s = .next ((s.readTo t { w with
             headers := found, settled := w.settled + 1
             testSpans := w.testSpans ++ out.2.toList }).modTree t (fun tr =>
           { tr with upDiscards := min (tr.upDiscards + 1) 4294967295 })))
  ∧ (∀ (s : State) (t : TreeId) (light : BurstLight) (w : Window) (g : Grant) (timing : Timing)
       (overrun : Bool) (offset level : Int) (backlog used : Nat) (span : Option Int),
       s.inReset = none → (s.tree t).rx.window = some w → w.plan.grants[w.settled]? = some g →
       let h := g.home
       let r := s.record t h
       let found := w.headers ++ light.headers
       r.state ≠ .free → r.generation = g.generation →
       settleGrant s.cfg.litLevel w.plan g found light
         = (.good timing overrun offset level backlog used, span) →
       let s' := s.readTo t { w with
         headers := found, settled := w.settled + 1, testSpans := w.testSpans ++ span.toList }
       let active := decide (r.state = .active)
       let trims := active && decide (timing ≠ .arrived) && decide ((s.home t h).trimHold.getD 0 = 0)
       let eqd := (max 0 (min ((r.eqd.getD 0 : Int) - offset) 12800)).toNat
       let scored := fun n : Nat =>
         if timing = .misplaced ∨ overrun = true then min (n + 4) 31 else n - 1
       ∃ x, exec (.arrival t light) s = .next (x.countUp t h used)
         ∧ x.home t h =
           { s.home t h with
             record := { r with
               lastLevel := some level
               silence := if active then some 0 else r.silence
               eqd := if trims then some eqd else r.eqd
               rtt := if trims then some (12800 - eqd) else r.rtt
               rogueScore := r.rogueScore.map scored },
             trimHold := if trims then some 16 else (s.home t h).trimHold
             reportSlot := if active then some backlog else (s.home t h).reportSlot }
         ∧ (x.tree t).tx = (if trims
             then ((s.tree t).tx.push (.setDelay h (r.serial.getD 0) eqd)).1 else (s.tree t).tx)
         ∧ (x.tree t).light = (s.tree t).light ∧ x.meter = s.meter ∧ x.serialIndex = s.serialIndex
         ∧ s'.onlyHome x t h ∧ x.bus = s.bus
         ∧ x.outputs = (if used = 0 then s.outputs
             else .upstream t h (light.payload.take used) :: s.outputs)
         ∧ x.inFlight = s.inFlight ++ (if r.rogueScore.any
               (fun n => decide (n < s.cfg.scoreLimit) && decide (s.cfg.scoreLimit ≤ scored n))
             then [.scoreQuenchRequest t h g.generation] else []))

/-- A SILENT or GARBLED arrival that is not stale (R30, R32, R33): a GARBLED one leaves its level; the
silence of an ACTIVE record gains 1, and at SILENT_LIMIT the record becomes LOST with LOST_HOLD running;
nothing else changes. A WRONG-HOME arrival that is not stale (R22, R30, R32, R33, R124): the granted
home keeps the level, and if it is ACTIVE it counts one silence and becomes LOST at SILENT_LIMIT as
before; the upstream discards gain 1; the home named, if its record has a score, is scored 4 up to 31,
which sends a quench request for it at a crossing of SCORE_LIMIT; a header that names an index above 127
scores no home, which is the model's reading (notes/assumptions/10.md); nothing else changes. -/
def Obligations.BadArrivalsCountSilenceAndScores : Prop :=
  (∀ (s : State) (t : TreeId) (light : BurstLight) (w : Window) (g : Grant) (level : Option Int),
     s.inReset = none → (s.tree t).rx.window = some w → w.plan.grants[w.settled]? = some g →
     let h := g.home
     let r := s.record t h
     let found := w.headers ++ light.headers
     r.state ≠ .free → r.generation = g.generation →
     settleGrant s.cfg.litLevel w.plan g found light
       = ((match level with | some n => .garbled n | none => .silent), none) →
     let s' := s.readTo t { w with headers := found, settled := w.settled + 1 }
     let silence := r.silence.getD 0 + 1
     let kept := { r with lastLevel := level.or r.lastLevel }
     (r.state ≠ .active →
       ∃ u, exec (.arrival t light) s = .next u ∧ s'.recordOnly u t h kept ∧ s.sameTraffic u)
     ∧ (r.state = .active → silence < s.cfg.silentLimit →
       ∃ u, exec (.arrival t light) s = .next u
         ∧ s'.recordOnly u t h { kept with silence := some silence } ∧ s.sameTraffic u)
     ∧ (r.state = .active → s.cfg.silentLimit ≤ silence →
       ∃ u, exec (.arrival t light) s = .next u
         ∧ u.home t h =
           { record := kept.standing .lost (some (max s.cfg.lostHold 1))
             reportSlot := none, trimHold := none, usage := (s.home t h).usage }
         ∧ u.meter = s.meter ∧ (u.tree t).tx = (s.tree t).tx ∧ (u.tree t).light = (s.tree t).light
         ∧ u.serialIndex = s.serialIndex ∧ s'.onlyHome u t h ∧ s.sameTraffic u))
  ∧ (∀ (s : State) (t : TreeId) (light : BurstLight) (w : Window) (g : Grant) (named : Nat)
       (level : Int),
       s.inReset = none → (s.tree t).rx.window = some w → w.plan.grants[w.settled]? = some g →
       let h := g.home
       let r := s.record t h
       let found := w.headers ++ light.headers
       r.state ≠ .free → r.generation = g.generation →
       settleGrant s.cfg.litLevel w.plan g found light = (.wrongHome named level, none) →
       let s' := s.readTo t { w with headers := found, settled := w.settled + 1 }
       let silence := r.silence.getD 0 + 1
       let kept := { r with lastLevel := some level }
       let scored := fun k : Nat => min (k + 4) 31
       named ≠ h.val
       ∧ ∃ u, exec (.arrival t light) s = .next u
         ∧ u.home t h =
           (if r.state ≠ .active then { s.home t h with record := kept }
            else if silence < s.cfg.silentLimit then
              { s.home t h with record := { kept with silence := some silence } }
            else { record := kept.standing .lost (some (max s.cfg.lostHold 1))
                   reportSlot := none, trimHold := none, usage := (s.home t h).usage })
         ∧ (∀ k : HomeIdx, k ≠ h → u.home t k =
             if k.val = named then { s.home t k with record := { s.record t k with
               rogueScore := (s.record t k).rogueScore.map scored } }
             else s.home t k)
         ∧ u.tree t = { s'.tree t with
             homes := (u.tree t).homes
             upDiscards := min ((s.tree t).upDiscards + 1) 4294967295 }
         ∧ (∀ v, v ≠ t → u.tree v = s.tree v)
         ∧ u = { s with trees := u.trees, inFlight := u.inFlight }
         ∧ (∀ k : HomeIdx, k.val = named → u.inFlight = s.inFlight ++
             (if (s.record t k).rogueScore.any
                 (fun n => decide (n < s.cfg.scoreLimit) && decide (s.cfg.scoreLimit ≤ scored n))
              then [.scoreQuenchRequest t k (s.record t k).generation] else []))
         ∧ (127 < named → u.inFlight = s.inFlight))

/-- Reading on in the discovery window (R21): light left from a garbled reply is passed over to the
first dark step; the next reply starts at the first step after it at or above LIT_LEVEL; one whose 32
steps end within the window and whose check is correct is VALID, with its round, tree, offset and level,
and the reading goes on after it; one with a wrong check or cut by the window's end is GARBLED, and the
reading goes on at the first later dark step; in light with no lit step no reply is read. That a dark
step within the 32 steps of a GARBLED reply ends it is the model's reading (notes/assumptions/26.md),
and that nothing is read past the window's 16000 steps is its choice (notes/assumptions/8.md). -/
def Obligations.ReplyIsReadAtTheFirstLight : Prop :=
  ∀ (litLevel : Int) (t : TreeId) (w : Window) (light : ReplyLight) (past dark lit rest : List Int),
    light.levels = past ++ dark ++ lit ++ rest →
    (w.replyBlind = false → past = []) → (∀ x ∈ past, litLevel ≤ x) →
    (∀ x ∈ dark, x < litLevel) → (∀ x ∈ lit, litLevel ≤ x) →
    (w.replyBlind = true → lit ≠ [] → dark ≠ []) →
    let start := w.replyStep + past.length + dark.length
    let read := readOn litLevel t w light
    let garbled := ({ w with replyStep := start + lit.length, replyBlind := decide (rest = []) }
      , some (ReplyRecord.garbled w.plan.round t))
    let clamped := fun x : Int => if x < -400 then -400 else if -50 < x then -50 else x
    (lit = [] → rest = [] →
      read = ({ w with replyStep := start, replyBlind := w.replyBlind && decide (dark = []) }, none))
    ∧ (lit ≠ [] → (∀ x, rest.head? = some x → x < litLevel) →
      (16000 ≤ start → read = ({ w with replyStep := start, replyBlind := false }, none))
      ∧ (start < 16000 → 16000 < start + 32 → read = garbled)
      ∧ (start + 32 ≤ 16000 → readReply light.bytes = none → read = garbled)
      ∧ ∀ serial delay, start + 32 ≤ 16000 → readReply light.bytes = some (serial, delay) →
          read = ({ w with replyStep := start + 32, replyBlind := false }
            , some (.valid w.plan.round t serial delay start (clamped light.replyLevel))))

/-- A downstream frame (R23): while the Transmitter holds 64 it is held back; for an ACTIVE or QUENCHED
home of an enabled tree, and at most 16384 bytes long, it is taken and metered; any other is discarded
and counted. The oldest taken frame goes out when it fits the room that the round has left on the line,
which it uses up; a frame that does not fit waits whole; with none there is nothing to send (R23). The
line's room and that a frame held back has no effect are the model's choices (notes/assumptions/14.md).
-/
def Obligations.DownstreamFramesAreTakenAndSent : Prop :=
  (∀ (s : State) (t : TreeId) (h : HomeIdx) (frame : List Byte), s.inReset = none →
     let c := Instr.downstreamFrame t h frame
     let state := (s.record t h).state
     let delivered := s.enabled t = true ∧ (state = .active ∨ state = .quenched) ∧ frame.length ≤ 16384
     (64 ≤ (s.tree t).tx.taken.length → exec c s = .next s)
     ∧ ((s.tree t).tx.taken.length < 64 → delivered →
       exec c s = .next ((s.modTree t (fun tr =>
         { tr with tx := { tr.tx with taken := tr.tx.taken ++ [{ home := h, bytes := frame }] } })).countDown
           t h frame.length))
     ∧ ((s.tree t).tx.taken.length < 64 → ¬ delivered →
       exec c s = .next (s.modTree t (fun tr =>
         { tr with downDiscards := min (tr.downDiscards + 1) 4294967295 }))))
  ∧ (∀ (s : State) (t : TreeId), s.inReset = none →
       ((s.tree t).tx.taken = [] → exec (.takenFrameSent t) s = .next s)
       ∧ ∀ (f : TakenFrame) (rest : List TakenFrame), (s.tree t).tx.taken = f :: rest →
         (∀ room, (s.tree t).tx.lineRoom = f.bytes.length + room →
           ∃ u, exec (.takenFrameSent t) s = .next u
             ∧ u = { s with outputs := .downstream t f.home f.bytes :: s.outputs, trees := u.trees }
             ∧ (∀ v, v ≠ t → u.tree v = s.tree v)
             ∧ u.tree t = { s.tree t with tx := { (s.tree t).tx with taken := rest, lineRoom := room } })
         ∧ ((s.tree t).tx.lineRoom < f.bytes.length → exec (.takenFrameSent t) s = .next s))

/-! ### District share (chapter 6) -/

/-- A DEMAND from a station 0 to 30 other than the chip, while it runs, makes or refreshes that peer's
entry with the figures clamped to CHIP_MAX and age 0, and nothing else changes; any other is ignored
(R114). An epoch end that is due ages the peer table and removes entries of age 4, takes the own demand
of the ACTIVE homes, computes the share from both, and posts a DEMAND; nothing else changes (R109 to
R112, R115 to R117). The epoch end being due is the model's convention (notes/assumptions/5.md). -/
def Obligations.DemandsAndEpochEndsSetTheShare : Prop :=
  ∀ (s : State), s.inReset = none →
    let chipMax := 3960 * (allTrees.filter (fun t => s.cfg.enabled.getLsbD t.val)).length
    (∀ peer committed excess homes : Nat,
      let c := Instr.demandReceived peer committed excess homes
      let new : Peer := { address := peer, committed := min committed chipMax
                          excess := min excess chipMax, age := 0 }
      let kept := fun peers : List Peer => { s.take c with share := { s.share with peers := peers } }
      (s.hearsPeer peer = true → peer ≤ 30 →
        ((∀ p ∈ s.share.peers, p.address ≠ peer) →
          exec c s = .next (kept (s.share.peers ++ [new])))
        ∧ ∀ (before after : List Peer) (p : Peer), s.share.peers = before ++ p :: after →
          p.address = peer → (∀ q ∈ before ++ after, q.address ≠ peer) →
          exec c s = .next (kept (before ++ new :: after)))
      ∧ (s.hearsPeer peer = false ∨ 30 < peer → exec c s = .next (s.take c)))
    ∧ (s.epochDue = false ∨ s.running = false → exec .epochEnd s = .next s)
    ∧ (s.epochDue = true → s.running = true →
      let peers := (s.share.peers.filter (fun p => decide (p.age < 3))).map
        (fun p => { p with age := p.age + 1 })
      let active := (allTrees.filter s.enabled).flatMap (fun t =>
        (allHomes.map (s.record t)).filter (fun r => decide (r.state = .active)))
      let c := min (active.map s.committedOf).sum chipMax
      let e := min (active.map s.excessOf).sum chipMax
      let sumC := c + (peers.map Peer.committed).sum
      let sumE := e + (peers.map Peer.excess).sum
      let d := s.cfg.capacity
      let share := if d ≤ sumC then d * c / sumC
        else if 0 < sumE then c + (d - sumC) * e / sumE
        else c + (d - sumC) / (peers.length + 1)
      exec .epochEnd s = .next
        ({ s with
          epochDue := false
          share := { s.share with
            peers := peers, own := some { committed := c, excess := e, homes := active.length }
            share := min share chipMax } }.post .share 31 (.demand c e active.length)))

/-- Chips that hold the same figures of one another cut shares, before the clamp, that together keep to
the district capacity; each alone keeps to it as well, and a chip alone on its shelf gets the whole of
it (R116, R117). -/
def Obligations.SharesKeepToTheDistrict : Prop :=
  ∀ (d : Nat) (chips : List (Nat × Nat)), 0 < d →
    let sumC := (chips.map Prod.fst).sum
    let sumE := (chips.map Prod.snd).sum
    let share := fun x : Nat × Nat => shareBefore d sumC sumE chips.length x.1 x.2
    (chips.map share).sum ≤ d ∧ (∀ x ∈ chips, share x ≤ d)
    ∧ (∀ x, chips = [x] → share x = d)
    ∧ (sumC < d → ∀ x ∈ chips, x.1 ≤ share x)

/-! ### Usage metering (chapter 8) -/

/-- Bytes of a burst or of a downstream frame are counted into the residue of their direction, whole
units of 2 to the UNIT_EXP bytes move to the open counter, saturating with its flag, and the quota is
evaluated when a unit was added; a home with no usage entry counts nothing (R146, R147, R148, R151,
R152). -/
def Obligations.BytesAreCountedInUnits : Prop :=
  ∀ (s : State) (t : TreeId) (h : HomeIdx) (bytes : Nat),
    let unit := 2 ^ s.cfg.unitExp
    ((s.home t h).usage = none → s.countUp t h bytes = s ∧ s.countDown t h bytes = s)
    ∧ ∀ x, (s.home t h).usage = some x →
      let up := { x with
        residueUp := (x.residueUp + bytes) % unit
        counters := { x.counters with up := x.counters.up.plus ((x.residueUp + bytes) / unit) } }
      let down := { x with
        residueDown := (x.residueDown + bytes) % unit
        counters := { x.counters with down := x.counters.down.plus ((x.residueDown + bytes) / unit) } }
      (x.residueUp + bytes < unit →
        s.countUp t h bytes = s.modHome t h (fun y => { y with usage := some up }))
      ∧ (unit ≤ x.residueUp + bytes → s.countUp t h bytes = s.evaluatedWith t h up)
      ∧ (x.residueDown + bytes < unit →
        s.countDown t h bytes = s.modHome t h (fun y => { y with usage := some down }))
      ∧ (unit ≤ x.residueDown + bytes → s.countDown t h bytes = s.evaluatedWith t h down)

/-- At a round receive end the Meter adds the round to the active, throttled and impaired rounds of the
tree's ACTIVE homes, by their record and the round's impairment mark (R129, R149), and then cuts the
tree's PREPARING readouts in the order of creation; a cut gives one record for each index in range,
TAKEN with the open counters, HELD_ELSEWHERE or EMPTY, sets the counters taken to 0 under the readout's
tag while residues stay, and makes the readout READY with PICKUP_WAIT running (R164, R165). That a cut
is made on the state after all counts of the round is as R164 says; a TAKEN record's state byte is the
model's choice (notes/assumptions/17.md). -/
def Obligations.ReceiveEndCountsRoundsAndCuts : Prop :=
  (∀ (s : State) (t : TreeId) (round : Nat),
    let u := s.countRounds t round
    let impaired := fun h : HomeIdx =>
      ((s.tree t).marks.find? (fun m => decide (m.round = round))).any
        (fun m => m.notClear || m.testDark.contains h)
    s.meterReceiveEnd t round = ((s.meter.readouts.filter (Readout.preparingOn t)).foldl State.cut u)
    ∧ u = { s with trees := u.trees } ∧ (∀ v, v ≠ t → u.tree v = s.tree v)
    ∧ u.tree t = { s.tree t with homes := (u.tree t).homes }
    ∧ ∀ h, u.home t h = { s.home t h with usage := (s.home t h).usage.map (fun x =>
        if (s.record t h).state = .active then
          { x with counters := { x.counters with
            activeRounds := x.counters.activeRounds.plus 1
            throttledRounds := if (s.record t h).throttled = some true
              then x.counters.throttledRounds.plus 1 else x.counters.throttledRounds
            impairedRounds := if impaired h
              then x.counters.impairedRounds.plus 1 else x.counters.impairedRounds } }
        else x) })
  ∧ ∀ (s : State) (e : Readout) (t : TreeId) (first : HomeIdx), e.range = .usage t first →
    first.val + e.count ≤ 128 →
    let u := s.cut e
    let covered := fun h : HomeIdx => first.val ≤ h.val ∧ h.val < first.val + e.count
    let recordOf := fun h : HomeIdx =>
      match (s.home t h).usage with
      | none => SnapshotRecord.empty t h (s.record t h).state
      | some x =>
        match x.inSnapshot with
        | some tag => .heldElsewhere ((s.record t h).serial.getD 0) t h (s.record t h).generation tag
        | none => .taken ((s.record t h).serial.getD 0) t h (s.record t h).generation x.interval
            x.counters
    u = { s with trees := u.trees, meter := { s.meter with readouts := u.meter.readouts } }
    ∧ (∀ v, v ≠ t → u.tree v = s.tree v) ∧ u.tree t = { s.tree t with homes := (u.tree t).homes }
    ∧ (∀ h, ¬ covered h → u.home t h = s.home t h)
    ∧ (∀ h, covered h → u.home t h = { s.home t h with usage := (s.home t h).usage.map (fun x =>
        if x.inSnapshot = none then
          { x with counters := ⟨⟨0, false⟩, ⟨0, false⟩, ⟨0, false⟩, ⟨0, false⟩, ⟨0, false⟩⟩
                   inSnapshot := some e.tag }
        else x) })
    ∧ ∃ snapshot : List SnapshotRecord, snapshot.length = e.count
      ∧ (∀ (k : Nat) (h : HomeIdx), k < e.count → h.val = first.val + k →
          snapshot[k]? = some (recordOf h))
      ∧ u.meter.readouts = s.meter.readouts.map (fun x => if x.tag = e.tag
          then { x with state := .ready, timer := some (max s.cfg.pickupWait 1), snapshot := snapshot }
          else x)

/-! ### Billing readout (chapter 9) -/

/-- READ (R159 to R163). Out of range: DECLINED BAD_RANGE. A match in PREPARING: PENDING; in READY or
DELIVERED: DELIVERED with CONFIRM_WAIT running, and DATA with the snapshot; an equal count matches
before a larger one, and the earlier created first. No match: with room a new entry under the next tag,
a DEPARTED one READY at once with the oldest unmarked records marked, and PENDING, and the next tag
moves on by 1, from 255 to 1, past the tags in the table (R159); with none, BUSY. What a DECLINED echoes
and what a DEPARTED answer leaves 0 are the model's choices (notes/assumptions/15.md). -/
def Obligations.ReadIsAnsweredFromTheTable : Prop :=
  ∀ (s : State) (sender kind tree first count : Nat), s.inReset = none → s.obeys sender = true →
    let c := Instr.read sender kind tree first count
    let s1 := s.take c
    let wanted : Option ReadRange :=
      if kind = 1 then some ⟨.departed, if count = 0 then 1 else min count 4⟩
      else if kind = 0 then
        if h : tree < 4 ∧ first < 128 then
          if s.enabled ⟨tree, h.1⟩ then
            some ⟨.usage ⟨tree, h.1⟩ ⟨first, h.2⟩, min (if count = 0 then 1 else min count 6) (128 - first)⟩
          else none
        else none
      else none
    (wanted = none → exec c s =
      .next (s1.post .meter sender (.declined (.read kind tree first count) .badRange none)))
    ∧ ∀ r, wanted = some r →
      let same := fun e : Readout => e.requester = sender ∧ e.range = r.range ∧ e.count = r.count
      let larger := fun e : Readout => e.requester = sender ∧ e.range = r.range ∧ r.count < e.count
      let answered := fun e : Readout =>
        (e.state = .preparing →
          exec c s = .next (s1.post .meter sender (.pending r.reference e.tag)))
        ∧ (e.state ≠ .preparing →
          exec c s = .next ((s1.modMeter (fun m => { m with readouts := m.readouts.map (fun x =>
              if x.tag = e.tag then
                { x with state := .delivered, timer := some (max s.cfg.confirmWait 1) }
              else x) })).post .meter sender
            (.data r.reference e.tag e.firstIndex e.count (s.meter.dataRecords e))))
      (∀ (older newer : List Readout) (e : Readout), s.meter.readouts = older ++ e :: newer →
        (same e → (∀ x ∈ older, ¬ same x) → answered e)
        ∧ (larger e → s.cfg.aliasOn = true → (∀ x ∈ s.meter.readouts, ¬ same x) →
            (∀ x ∈ older, ¬ larger x) → answered e))
      ∧ ((∀ x ∈ s.meter.readouts, ¬ same x) →
          (s.cfg.aliasOn = true → ∀ x ∈ s.meter.readouts, ¬ larger x) →
        (4 ≤ s.meter.readouts.length →
          exec c s = .next (s1.post .meter sender (.busy r.reference)))
        ∧ (s.meter.readouts.length < 4 →
          ∃ u : State, exec c s = .next (u.post .meter sender (.pending r.reference s.meter.nextTag))
            ∧ u = { s1 with meter := u.meter }
            ∧ (∀ t h, r.range = .usage t h →
                u.meter.departed = s.meter.departed
                ∧ u.meter.readouts = s.meter.readouts ++
                  [{ requester := sender, range := r.range, count := r.count, tag := s.meter.nextTag
                     state := .preparing, timer := none, snapshot := [] }])
            ∧ (r.range = .departed →
                u.meter.readouts = s.meter.readouts ++
                  [{ requester := sender, range := r.range, count := r.count, tag := s.meter.nextTag
                     state := .ready, timer := some (max s.cfg.pickupWait 1), snapshot := [] }]
                ∧ u.meter.departed.map (fun d => { d with mark := none })
                  = s.meter.departed.map (fun d => { d with mark := none })
                ∧ ∀ (before after : List DepartedRecord) (d : DepartedRecord),
                  s.meter.departed = before ++ d :: after →
                  (u.meter.departed[before.length]?) = some (
                    if d.mark = none
                      ∧ (before.filter (fun x => decide (x.mark = none))).length < r.count
                    then { d with mark := some s.meter.nextTag } else d))
            ∧ (1 ≤ s.meter.nextTag → s.meter.nextTag ≤ 255 →
                let later := fun k : Nat => (s.meter.nextTag - 1 + k) % 255 + 1
                ∃ k, 1 ≤ k ∧ k ≤ 4 ∧ u.meter.nextTag = later k
                  ∧ (∀ e ∈ u.meter.readouts, e.tag ≠ u.meter.nextTag)
                  ∧ ∀ j, 1 ≤ j → j < k → ∃ e ∈ u.meter.readouts, e.tag = later j)
            ∧ u.meter.missedPickups = s.meter.missedPickups
            ∧ u.meter.departedLoss = s.meter.departedLoss))

/-- CONFIRM of a DELIVERED entry by its requester commits it and is answered ACCEPTED, and any other is
answered STALE with no change (R167); PICKUP_WAIT running out in READY counts a missed pickup and merges
the entry back, and CONFIRM_WAIT running out in DELIVERED merges it back (R166); a commit and a
merge-back go through the snapshot in its order, or remove and unmark the records marked with the tag,
and free the entry (R168, R169). That an expiry event is one of a timer at 0 is the model's choice
(notes/assumptions/5.md). -/
def Obligations.ReadoutsEndByConfirmOrExpiry : Prop :=
  ∀ (s : State) (older newer : List Readout) (e : Readout), s.inReset = none →
    s.meter.readouts = older ++ e :: newer → (∀ x ∈ older ++ newer, x.tag ≠ e.tag) →
    let freed := fun x : State => x.modMeter (fun m =>
      { m with readouts := m.readouts.filter (fun y => decide (y.tag ≠ e.tag)) })
    let committed := fun x : State =>
      freed (match e.range with
        | .usage _ _ => e.snapshot.foldl State.commitRecord x
        | .departed => x.modMeter (fun m =>
            { m with departed := m.departed.filter (fun d => decide (d.mark ≠ some e.tag)) }))
    let mergedBack := fun x : State =>
      freed (match e.range with
        | .usage _ _ => e.snapshot.foldl State.mergeRecord x
        | .departed => x.modMeter (fun m => { m with departed := m.departed.map (fun d =>
            if d.mark = some e.tag then { d with mark := none } else d) }))
    (∀ sender, s.obeys sender = true →
      let c := Instr.confirm sender e.tag
      (e.state = .delivered → e.requester = sender →
        exec c s = .next ((committed (s.take c)).post .meter sender (.accepted (.confirm e.tag) none)))
      ∧ (e.state ≠ .delivered ∨ e.requester ≠ sender →
        exec c s = .next ((s.take c).post .meter sender (.stale (.confirm e.tag))))
      ∧ ∀ tag, (∀ x ∈ s.meter.readouts, x.tag ≠ tag) →
        exec (.confirm sender tag) s =
          .next ((s.take (.confirm sender tag)).post .meter sender (.stale (.confirm tag))))
    ∧ (e.timer = some 0 →
      (e.state = .ready → exec (.pickupWaitExpiry e.tag) s = .next (mergedBack (s.modMeter (fun m =>
        { m with missedPickups := min (m.missedPickups + 1) 4294967295 }))))
      ∧ (e.state = .delivered → exec (.confirmWaitExpiry e.tag) s = .next (mergedBack s)))

/-- One TAKEN record of a snapshot (R153, R168, R169). Its home still tiered with its generation: a
commit advances the interval, clears in_snapshot and has the throttle looked at, cleared when the quota
is 0 or not reached; a merge-back adds the counters, saturating, clears in_snapshot and evaluates the
quota. Its home gone: a commit changes nothing, a merge-back appends a MERGED record. HELD_ELSEWHERE and
EMPTY records change nothing (R168, R169). Appending to 32 records first removes the oldest unmarked
one, which is counted (R155). That a commit may also set the throttle, which no run shows, is the
model's choice (notes/assumptions/20.md). -/
def Obligations.SnapshotRecordsAreDeliveredOrReturned : Prop :=
  (∀ (s : State) (serial : Serial) (t : TreeId) (h : HomeIdx) (generation interval : Nat) (k : Counters),
    let taken := SnapshotRecord.taken serial t h generation interval k
    let r := s.record t h
    (r.generation = generation → isTiered r.state = true →
      ∀ x, (s.home t h).usage = some x →
        let y := { x with interval := (x.interval + 1) % 65536, inSnapshot := none }
        let reached := decide (0 < r.quota.getD 0) && decide (r.quota.getD 0 ≤ s.unitsHeld t h y)
        (s.commitRecord taken = if reached
          then s.evaluatedWith t h y
          else s.modHome t h (fun z => { z with
            usage := some y
            record := { z.record with throttled := z.record.throttled.map (fun _ => false) } }))
        ∧ s.mergeRecord taken = s.evaluatedWith t h { x with
            inSnapshot := none
            counters :=
              { up := x.counters.up.regains k.up
                down := x.counters.down.regains k.down
                activeRounds := x.counters.activeRounds.regains k.activeRounds
                throttledRounds := x.counters.throttledRounds.regains k.throttledRounds
                impairedRounds := x.counters.impairedRounds.regains k.impairedRounds } })
    ∧ (r.generation ≠ generation ∨ isTiered r.state = false →
      s.commitRecord taken = s
      ∧ s.mergeRecord taken = s.modMeter (fun m => m.append
          { serial := serial, tree := t, home := h, generation := generation, reason := .merged
            interval := interval, counters := k, mark := none })))
  ∧ (∀ (s : State) (serial : Serial) (t : TreeId) (h : HomeIdx) (generation tag : Nat)
       (state : RecordState),
       s.commitRecord (.heldElsewhere serial t h generation tag) = s
       ∧ s.mergeRecord (.heldElsewhere serial t h generation tag) = s
       ∧ s.commitRecord (.empty t h state) = s ∧ s.mergeRecord (.empty t h state) = s)
  ∧ ∀ (m : Meter) (d : DepartedRecord),
    (m.departed.length < 32 → m.append d = { m with departed := m.departed ++ [d] })
    ∧ ∀ (older newer : List DepartedRecord) (x : DepartedRecord), m.departed = older ++ x :: newer →
      32 ≤ m.departed.length → x.mark = none → (∀ y ∈ older, y.mark ≠ none) →
      m.append d = { m with departed := older ++ newer ++ [d]
                            departedLoss := min (m.departedLoss + 1) 4294967295 }

/-! ### Every command (chapters 1 to 10) -/

/-- A step carries out the command at the front of the queue on the state with the queue's rest,
whatever the command; on an empty queue the block idles, which is the model's own choice
(notes/assumptions/2.md). -/
def Obligations.FrontCommandIsCarriedOut : Prop :=
  (∀ (c : Instr) (rest : List Instr) (s : State),
    step { s with pending := c :: rest } = exec c { s with pending := rest })
  ∧ ∀ s : State, s.pending = [] → step s = .next s

/-- Every command on every state answers a next state with the queue of waiting commands as it stood,
and none ends in a fault or a refusal. While a reset lasts, no command but the three of the reset itself
changes anything: that every other command answers the state unchanged is the model's choice
(notes/assumptions/6.md), read from the list of what the chip does in a reset (section 10.1). The queue
and the rule for commands that find nothing to do are its choices too (notes/assumptions/3.md and 5.md).
-/
def Obligations.EveryCommandCompletes : Prop :=
  (∀ (s : State) (c : Instr), ∃ u, exec c s = .next u ∧ u.pending = s.pending)
  ∧ ∀ (s : State) (c : Instr), s.inReset ≠ none → c ≠ .powerOnReset → c ≠ .pinReset →
    (∀ straps, c ≠ .resetEnd straps) → exec c s = .next s

/-! ### What every step keeps -/

/-- Every step keeps the chip-wide values in their bounds: at most 16 entries in the transmit queue, one
of them on the line, none with 16 clashes (R47, R55); at most two managers, stations of their own (R53);
peer entries of distinct stations with figures up to CHIP_MAX and ages up to 3 (R113); a share within
the district capacity and CHIP_MAX (R116, R117); clamped settings exactly while the chip runs (R173,
R176, R178). -/
def Obligations.EveryStepKeepsTheChip : Prop :=
  ∀ s u : State, ChipInv s → step s = .next u → ChipInv u

/-- Every step keeps the Transmitters and Receivers to their places: 160 words, two plans pending and
two awaiting their windows, 64 taken frames of at most 16384 bytes, a downstream line within its round,
and no more grants settled than a window plan holds (R3, R8, R13, R18, R23). -/
def Obligations.EveryStepKeepsThePlaces : Prop :=
  ∀ s u : State, PlacesInv s → step s = .next u → PlacesInv u

/-- Every step keeps the readout table and the departed list, while the Home Table stands as
EveryStepKeepsTheHomeTable keeps it: at most 4 entries under distinct tags of 1 to 255, the next tag not
among them; a cut entry's snapshot with one record for each of its indices; each in_snapshot tag that of
an entry READY or DELIVERED which holds the home's record; each mark that of a DEPARTED entry, which
marks at most its count, so that at most 16 of at most 32 departed records are marked (R154 to R156,
R158 to R165). -/
def Obligations.EveryStepKeepsTheReadouts : Prop :=
  ∀ s u : State, TableInv s → MeterInv s → step s = .next u → MeterInv u

/-- Every step keeps the Home Table, while the settings in force are in range as EveryStepKeepsTheChip
keeps them: each record's fields, report slot, trim hold and usage entry present as its state says and
within their bounds, with rtt and delay summing to 12800, levels of -400 to -50 and backlogs up to 65535
(R26, R28, R30, R36, R84, R90, R145); silence below SILENT_LIMIT, the poll countdown below POLL_EVERY,
relapses, those that a search outcome carries too, within RELAPSE_LIMIT (R33, R92, R126, R137); the
serial index just the serials of the records that are not FREE, each once (R31); the CR sum within
ADMIT_CAP (R78); a disabled tree OFF and idle (R25, R122). An UNDO_REQUEST in front of the queue is one
that the Monitor has sent (R139, R140): the model lets others act too (notes/assumptions/23.md), and
those may carry any number of relapses. -/
def Obligations.EveryStepKeepsTheHomeTable : Prop :=
  ∀ s u : State, ChipInv s → TableInv s → s.undoInFlight → step s = .next u → TableInv u

/-- Every step keeps the watch, while a disabled tree is OFF and a waiting chip enables none, as
EveryStepKeepsTheHomeTable keeps it: in SEARCH the candidates ascend, none is FREE, and test_dark is
present on every record and set on just the test half; outside it test_dark is absent; in VERIFY the
verified record is not FREE and holds the generation recorded (R130, R131, R135, R136, R141). -/
def Obligations.EveryStepKeepsTheWatch : Prop :=
  ∀ s u : State, TableInv s → WatchInv s → step s = .next u → WatchInv u

/-- The state after reset meets all five invariants. The strapped address and the cause in it are the
model's choice (notes/assumptions/1.md). -/
def Obligations.ResetMeetsTheInvariants : Prop :=
  ChipInv State.reset ∧ PlacesInv State.reset ∧ MeterInv State.reset ∧ TableInv State.reset
    ∧ WatchInv State.reset
end

