-- ==== Sys2Proof/Laws/State.lean ====
section
/-! SUPPORT. One lemma per field per update of the state, of a tree and of a home, so that no later
proof unfolds a record update. -/

namespace Sys2Proof.Machine

/-! ### Vectors -/

theorem get_vectorSet_self {α : Type} {n : Nat} (v : Vector α n) (k : Fin n) (x : α) :
    (v.set k.val x k.isLt).get k = x := by
  rw [Vector.get_eq_getElem, Vector.getElem_set_self]

theorem get_vectorSet_other {α : Type} {n : Nat} (v : Vector α n) (k m : Fin n) (x : α) (h : m ≠ k) :
    (v.set k.val x k.isLt).get m = v.get m := by
  rw [Vector.get_eq_getElem, Vector.get_eq_getElem, Vector.getElem_set_ne]
  exact fun e => h (Fin.ext e.symm)

@[simp] theorem get_tabulate {α : Type} {n : Nat} (f : Fin n → α) (k : Fin n) :
    (tabulate f).get k = f k := by
  rw [Vector.get_eq_getElem]
  simp [tabulate]

/-! ### A tree's homes -/

@[simp] theorem Tree.home_modHome_self (tr : Tree) (h : HomeIdx) (f : Home → Home) :
    (tr.modHome h f).home h = f (tr.home h) := get_vectorSet_self _ _ _

@[simp] theorem Tree.home_modHome_other (tr : Tree) (h k : HomeIdx) (f : Home → Home) (hk : k ≠ h) :
    (tr.modHome h f).home k = tr.home k := get_vectorSet_other _ _ _ _ hk

@[simp] theorem Tree.home_mapHomes (tr : Tree) (f : HomeIdx → Home → Home) (k : HomeIdx) :
    (tr.mapHomes f).home k = f k (tr.home k) := get_tabulate _ _

@[simp] theorem Tree.modHome_tx (tr : Tree) (h : HomeIdx) (f : Home → Home) : (tr.modHome h f).tx = tr.tx := rfl
@[simp] theorem Tree.modHome_rx (tr : Tree) (h : HomeIdx) (f : Home → Home) : (tr.modHome h f).rx = tr.rx := rfl
@[simp] theorem Tree.modHome_enrol (tr : Tree) (h : HomeIdx) (f : Home → Home) : (tr.modHome h f).enrol = tr.enrol := rfl
@[simp] theorem Tree.modHome_homePointer (tr : Tree) (h : HomeIdx) (f : Home → Home) : (tr.modHome h f).homePointer = tr.homePointer := rfl
@[simp] theorem Tree.modHome_light (tr : Tree) (h : HomeIdx) (f : Home → Home) : (tr.modHome h f).light = tr.light := rfl
@[simp] theorem Tree.modHome_marks (tr : Tree) (h : HomeIdx) (f : Home → Home) : (tr.modHome h f).marks = tr.marks := rfl
@[simp] theorem Tree.modHome_upDiscards (tr : Tree) (h : HomeIdx) (f : Home → Home) : (tr.modHome h f).upDiscards = tr.upDiscards := rfl
@[simp] theorem Tree.modHome_downDiscards (tr : Tree) (h : HomeIdx) (f : Home → Home) : (tr.modHome h f).downDiscards = tr.downDiscards := rfl
@[simp] theorem Tree.modHome_headerDue (tr : Tree) (h : HomeIdx) (f : Home → Home) : (tr.modHome h f).headerDue = tr.headerDue := rfl
@[simp] theorem Tree.modHome_receiveDue (tr : Tree) (h : HomeIdx) (f : Home → Home) : (tr.modHome h f).receiveDue = tr.receiveDue := rfl

@[simp] theorem Tree.mapHomes_tx (tr : Tree) (f : HomeIdx → Home → Home) : (tr.mapHomes f).tx = tr.tx := rfl
@[simp] theorem Tree.mapHomes_rx (tr : Tree) (f : HomeIdx → Home → Home) : (tr.mapHomes f).rx = tr.rx := rfl
@[simp] theorem Tree.mapHomes_enrol (tr : Tree) (f : HomeIdx → Home → Home) : (tr.mapHomes f).enrol = tr.enrol := rfl
@[simp] theorem Tree.mapHomes_homePointer (tr : Tree) (f : HomeIdx → Home → Home) : (tr.mapHomes f).homePointer = tr.homePointer := rfl
@[simp] theorem Tree.mapHomes_light (tr : Tree) (f : HomeIdx → Home → Home) : (tr.mapHomes f).light = tr.light := rfl
@[simp] theorem Tree.mapHomes_marks (tr : Tree) (f : HomeIdx → Home → Home) : (tr.mapHomes f).marks = tr.marks := rfl
@[simp] theorem Tree.mapHomes_upDiscards (tr : Tree) (f : HomeIdx → Home → Home) : (tr.mapHomes f).upDiscards = tr.upDiscards := rfl
@[simp] theorem Tree.mapHomes_downDiscards (tr : Tree) (f : HomeIdx → Home → Home) : (tr.mapHomes f).downDiscards = tr.downDiscards := rfl
@[simp] theorem Tree.mapHomes_headerDue (tr : Tree) (f : HomeIdx → Home → Home) : (tr.mapHomes f).headerDue = tr.headerDue := rfl
@[simp] theorem Tree.mapHomes_receiveDue (tr : Tree) (f : HomeIdx → Home → Home) : (tr.mapHomes f).receiveDue = tr.receiveDue := rfl

/-! ### The trees of a state -/

@[simp] theorem State.tree_modTree_self (s : State) (t : TreeId) (f : Tree → Tree) :
    (s.modTree t f).tree t = f (s.tree t) := get_vectorSet_self _ _ _

@[simp] theorem State.tree_modTree_other (s : State) (t u : TreeId) (f : Tree → Tree) (hu : u ≠ t) :
    (s.modTree t f).tree u = s.tree u := get_vectorSet_other _ _ _ _ hu

@[simp] theorem State.tree_mapTrees (s : State) (f : TreeId → Tree → Tree) (u : TreeId) :
    (s.mapTrees f).tree u = f u (s.tree u) := get_tabulate _ _

@[simp] theorem State.tree_modHome_self (s : State) (t : TreeId) (h : HomeIdx) (f : Home → Home) :
    (s.modHome t h f).tree t = (s.tree t).modHome h f := State.tree_modTree_self _ _ _

@[simp] theorem State.tree_modHome_other (s : State) (t u : TreeId) (h : HomeIdx) (f : Home → Home)
    (hu : u ≠ t) : (s.modHome t h f).tree u = s.tree u := State.tree_modTree_other _ _ _ _ hu

@[simp] theorem State.home_modHome_self (s : State) (t : TreeId) (h : HomeIdx) (f : Home → Home) :
    (s.modHome t h f).home t h = f (s.home t h) := by
  simp [State.home]

/-- Every other home keeps its value. -/
theorem State.home_modHome_other (s : State) (t u : TreeId) (h k : HomeIdx) (f : Home → Home)
    (hk : u ≠ t ∨ k ≠ h) : (s.modHome t h f).home u k = s.home u k := by
  by_cases hu : u = t
  · subst hu
    simp [State.home, hk.resolve_left (fun c => c rfl)]
  · simp [State.home, hu]

/-- A home after a change of one home. -/
theorem State.home_modHome (s : State) (t u : TreeId) (h k : HomeIdx) (f : Home → Home) :
    (s.modHome t h f).home u k = if u = t ∧ k = h then f (s.home t h) else s.home u k := by
  split
  · next e => obtain ⟨rfl, rfl⟩ := e; simp
  · next e => exact State.home_modHome_other _ _ _ _ _ _ (by tauto)

/-- A record after a change of one record. -/
theorem State.record_modRecord (s : State) (t u : TreeId) (h k : HomeIdx)
    (f : HomeRecord → HomeRecord) :
    (s.modRecord t h f).record u k = if u = t ∧ k = h then f (s.record t h) else s.record u k := by
  unfold State.modRecord State.record
  rw [State.home_modHome]
  split <;> rfl

@[simp] theorem State.record_modRecord_self (s : State) (t : TreeId) (h : HomeIdx)
    (f : HomeRecord → HomeRecord) : (s.modRecord t h f).record t h = f (s.record t h) := by
  simp [State.record_modRecord]

@[simp] theorem State.tree_setLight_self (s : State) (t : TreeId) (l : Light) :
    (s.setLight t l).tree t = { s.tree t with light := l } := State.tree_modTree_self _ _ _

@[simp] theorem State.tree_setLight_other (s : State) (t u : TreeId) (l : Light) (hu : u ≠ t) :
    (s.setLight t l).tree u = s.tree u := State.tree_modTree_other _ _ _ _ hu

@[simp] theorem State.home_setLight (s : State) (t u : TreeId) (k : HomeIdx) (l : Light) :
    (s.setLight t l).home u k = s.home u k := by
  by_cases hu : u = t
  · subst hu; simp [State.home, Tree.home]
  · simp [State.home, hu]

@[simp] theorem State.tree_queueWord_self (s : State) (t : TreeId) (w : ControlWord) :
    (s.queueWord t w).tree t = { s.tree t with tx := ((s.tree t).tx.push w).1 } :=
  State.tree_modTree_self _ _ _

@[simp] theorem State.tree_queueWord_other (s : State) (t u : TreeId) (w : ControlWord) (hu : u ≠ t) :
    (s.queueWord t w).tree u = s.tree u := State.tree_modTree_other _ _ _ _ hu

@[simp] theorem State.home_queueWord (s : State) (t u : TreeId) (k : HomeIdx) (w : ControlWord) :
    (s.queueWord t w).home u k = s.home u k := by
  by_cases hu : u = t
  · subst hu; simp [State.home, Tree.home]
  · simp [State.home, hu]

@[simp] theorem State.record_queueWord (s : State) (t u : TreeId) (k : HomeIdx) (w : ControlWord) :
    (s.queueWord t w).record u k = s.record u k := by
  simp [State.record]

@[simp] theorem State.record_setLight (s : State) (t u : TreeId) (k : HomeIdx) (l : Light) :
    (s.setLight t l).record u k = s.record u k := by
  simp [State.record]

/-! ### Updates of a state -/

/-! `modTree` changes trees only. -/

@[simp] theorem State.modTree_pending (s : State) (t : TreeId) (f : Tree → Tree) :
    (s.modTree t f).pending = s.pending := rfl
@[simp] theorem State.modTree_inFlight (s : State) (t : TreeId) (f : Tree → Tree) :
    (s.modTree t f).inFlight = s.inFlight := rfl
@[simp] theorem State.modTree_inReset (s : State) (t : TreeId) (f : Tree → Tree) :
    (s.modTree t f).inReset = s.inReset := rfl
@[simp] theorem State.modTree_round (s : State) (t : TreeId) (f : Tree → Tree) :
    (s.modTree t f).round = s.round := rfl
@[simp] theorem State.modTree_buildDue (s : State) (t : TreeId) (f : Tree → Tree) :
    (s.modTree t f).buildDue = s.buildDue := rfl
@[simp] theorem State.modTree_epochDue (s : State) (t : TreeId) (f : Tree → Tree) :
    (s.modTree t f).epochDue = s.epochDue := rfl
@[simp] theorem State.modTree_bus (s : State) (t : TreeId) (f : Tree → Tree) :
    (s.modTree t f).bus = s.bus := rfl
@[simp] theorem State.modTree_share (s : State) (t : TreeId) (f : Tree → Tree) :
    (s.modTree t f).share = s.share := rfl
@[simp] theorem State.modTree_treePointer (s : State) (t : TreeId) (f : Tree → Tree) :
    (s.modTree t f).treePointer = s.treePointer := rfl
@[simp] theorem State.modTree_meter (s : State) (t : TreeId) (f : Tree → Tree) :
    (s.modTree t f).meter = s.meter := rfl
@[simp] theorem State.modTree_serialIndex (s : State) (t : TreeId) (f : Tree → Tree) :
    (s.modTree t f).serialIndex = s.serialIndex := rfl
@[simp] theorem State.modTree_outputs (s : State) (t : TreeId) (f : Tree → Tree) :
    (s.modTree t f).outputs = s.outputs := rfl

/-! `modHome` changes trees only. -/

@[simp] theorem State.modHome_pending (s : State) (t : TreeId) (h : HomeIdx) (f : Home → Home) :
    (s.modHome t h f).pending = s.pending := rfl
@[simp] theorem State.modHome_inFlight (s : State) (t : TreeId) (h : HomeIdx) (f : Home → Home) :
    (s.modHome t h f).inFlight = s.inFlight := rfl
@[simp] theorem State.modHome_inReset (s : State) (t : TreeId) (h : HomeIdx) (f : Home → Home) :
    (s.modHome t h f).inReset = s.inReset := rfl
@[simp] theorem State.modHome_round (s : State) (t : TreeId) (h : HomeIdx) (f : Home → Home) :
    (s.modHome t h f).round = s.round := rfl
@[simp] theorem State.modHome_buildDue (s : State) (t : TreeId) (h : HomeIdx) (f : Home → Home) :
    (s.modHome t h f).buildDue = s.buildDue := rfl
@[simp] theorem State.modHome_epochDue (s : State) (t : TreeId) (h : HomeIdx) (f : Home → Home) :
    (s.modHome t h f).epochDue = s.epochDue := rfl
@[simp] theorem State.modHome_bus (s : State) (t : TreeId) (h : HomeIdx) (f : Home → Home) :
    (s.modHome t h f).bus = s.bus := rfl
@[simp] theorem State.modHome_share (s : State) (t : TreeId) (h : HomeIdx) (f : Home → Home) :
    (s.modHome t h f).share = s.share := rfl
@[simp] theorem State.modHome_treePointer (s : State) (t : TreeId) (h : HomeIdx) (f : Home → Home) :
    (s.modHome t h f).treePointer = s.treePointer := rfl
@[simp] theorem State.modHome_meter (s : State) (t : TreeId) (h : HomeIdx) (f : Home → Home) :
    (s.modHome t h f).meter = s.meter := rfl
@[simp] theorem State.modHome_serialIndex (s : State) (t : TreeId) (h : HomeIdx) (f : Home → Home) :
    (s.modHome t h f).serialIndex = s.serialIndex := rfl
@[simp] theorem State.modHome_outputs (s : State) (t : TreeId) (h : HomeIdx) (f : Home → Home) :
    (s.modHome t h f).outputs = s.outputs := rfl

/-! `modRecord` changes trees only. -/

@[simp] theorem State.modRecord_pending (s : State) (t : TreeId) (h : HomeIdx) (f : HomeRecord → HomeRecord) :
    (s.modRecord t h f).pending = s.pending := rfl
@[simp] theorem State.modRecord_inFlight (s : State) (t : TreeId) (h : HomeIdx) (f : HomeRecord → HomeRecord) :
    (s.modRecord t h f).inFlight = s.inFlight := rfl
@[simp] theorem State.modRecord_inReset (s : State) (t : TreeId) (h : HomeIdx) (f : HomeRecord → HomeRecord) :
    (s.modRecord t h f).inReset = s.inReset := rfl
@[simp] theorem State.modRecord_round (s : State) (t : TreeId) (h : HomeIdx) (f : HomeRecord → HomeRecord) :
    (s.modRecord t h f).round = s.round := rfl
@[simp] theorem State.modRecord_buildDue (s : State) (t : TreeId) (h : HomeIdx) (f : HomeRecord → HomeRecord) :
    (s.modRecord t h f).buildDue = s.buildDue := rfl
@[simp] theorem State.modRecord_epochDue (s : State) (t : TreeId) (h : HomeIdx) (f : HomeRecord → HomeRecord) :
    (s.modRecord t h f).epochDue = s.epochDue := rfl
@[simp] theorem State.modRecord_bus (s : State) (t : TreeId) (h : HomeIdx) (f : HomeRecord → HomeRecord) :
    (s.modRecord t h f).bus = s.bus := rfl
@[simp] theorem State.modRecord_share (s : State) (t : TreeId) (h : HomeIdx) (f : HomeRecord → HomeRecord) :
    (s.modRecord t h f).share = s.share := rfl
@[simp] theorem State.modRecord_treePointer (s : State) (t : TreeId) (h : HomeIdx) (f : HomeRecord → HomeRecord) :
    (s.modRecord t h f).treePointer = s.treePointer := rfl
@[simp] theorem State.modRecord_meter (s : State) (t : TreeId) (h : HomeIdx) (f : HomeRecord → HomeRecord) :
    (s.modRecord t h f).meter = s.meter := rfl
@[simp] theorem State.modRecord_serialIndex (s : State) (t : TreeId) (h : HomeIdx) (f : HomeRecord → HomeRecord) :
    (s.modRecord t h f).serialIndex = s.serialIndex := rfl
@[simp] theorem State.modRecord_outputs (s : State) (t : TreeId) (h : HomeIdx) (f : HomeRecord → HomeRecord) :
    (s.modRecord t h f).outputs = s.outputs := rfl

/-! `mapTrees` changes trees only. -/

@[simp] theorem State.mapTrees_pending (s : State) (f : TreeId → Tree → Tree) :
    (s.mapTrees f).pending = s.pending := rfl
@[simp] theorem State.mapTrees_inFlight (s : State) (f : TreeId → Tree → Tree) :
    (s.mapTrees f).inFlight = s.inFlight := rfl
@[simp] theorem State.mapTrees_inReset (s : State) (f : TreeId → Tree → Tree) :
    (s.mapTrees f).inReset = s.inReset := rfl
@[simp] theorem State.mapTrees_round (s : State) (f : TreeId → Tree → Tree) :
    (s.mapTrees f).round = s.round := rfl
@[simp] theorem State.mapTrees_buildDue (s : State) (f : TreeId → Tree → Tree) :
    (s.mapTrees f).buildDue = s.buildDue := rfl
@[simp] theorem State.mapTrees_epochDue (s : State) (f : TreeId → Tree → Tree) :
    (s.mapTrees f).epochDue = s.epochDue := rfl
@[simp] theorem State.mapTrees_bus (s : State) (f : TreeId → Tree → Tree) :
    (s.mapTrees f).bus = s.bus := rfl
@[simp] theorem State.mapTrees_share (s : State) (f : TreeId → Tree → Tree) :
    (s.mapTrees f).share = s.share := rfl
@[simp] theorem State.mapTrees_treePointer (s : State) (f : TreeId → Tree → Tree) :
    (s.mapTrees f).treePointer = s.treePointer := rfl
@[simp] theorem State.mapTrees_meter (s : State) (f : TreeId → Tree → Tree) :
    (s.mapTrees f).meter = s.meter := rfl
@[simp] theorem State.mapTrees_serialIndex (s : State) (f : TreeId → Tree → Tree) :
    (s.mapTrees f).serialIndex = s.serialIndex := rfl
@[simp] theorem State.mapTrees_outputs (s : State) (f : TreeId → Tree → Tree) :
    (s.mapTrees f).outputs = s.outputs := rfl

/-! `setLight` changes trees only. -/

@[simp] theorem State.setLight_pending (s : State) (t : TreeId) (l : Light) :
    (s.setLight t l).pending = s.pending := rfl
@[simp] theorem State.setLight_inFlight (s : State) (t : TreeId) (l : Light) :
    (s.setLight t l).inFlight = s.inFlight := rfl
@[simp] theorem State.setLight_inReset (s : State) (t : TreeId) (l : Light) :
    (s.setLight t l).inReset = s.inReset := rfl
@[simp] theorem State.setLight_round (s : State) (t : TreeId) (l : Light) :
    (s.setLight t l).round = s.round := rfl
@[simp] theorem State.setLight_buildDue (s : State) (t : TreeId) (l : Light) :
    (s.setLight t l).buildDue = s.buildDue := rfl
@[simp] theorem State.setLight_epochDue (s : State) (t : TreeId) (l : Light) :
    (s.setLight t l).epochDue = s.epochDue := rfl
@[simp] theorem State.setLight_bus (s : State) (t : TreeId) (l : Light) :
    (s.setLight t l).bus = s.bus := rfl
@[simp] theorem State.setLight_share (s : State) (t : TreeId) (l : Light) :
    (s.setLight t l).share = s.share := rfl
@[simp] theorem State.setLight_treePointer (s : State) (t : TreeId) (l : Light) :
    (s.setLight t l).treePointer = s.treePointer := rfl
@[simp] theorem State.setLight_meter (s : State) (t : TreeId) (l : Light) :
    (s.setLight t l).meter = s.meter := rfl
@[simp] theorem State.setLight_serialIndex (s : State) (t : TreeId) (l : Light) :
    (s.setLight t l).serialIndex = s.serialIndex := rfl
@[simp] theorem State.setLight_outputs (s : State) (t : TreeId) (l : Light) :
    (s.setLight t l).outputs = s.outputs := rfl

/-! `setTestDark` changes trees only. -/

@[simp] theorem State.setTestDark_pending (s : State) (t : TreeId) (f : HomeIdx → Option Bool) :
    (s.setTestDark t f).pending = s.pending := rfl
@[simp] theorem State.setTestDark_inFlight (s : State) (t : TreeId) (f : HomeIdx → Option Bool) :
    (s.setTestDark t f).inFlight = s.inFlight := rfl
@[simp] theorem State.setTestDark_inReset (s : State) (t : TreeId) (f : HomeIdx → Option Bool) :
    (s.setTestDark t f).inReset = s.inReset := rfl
@[simp] theorem State.setTestDark_round (s : State) (t : TreeId) (f : HomeIdx → Option Bool) :
    (s.setTestDark t f).round = s.round := rfl
@[simp] theorem State.setTestDark_buildDue (s : State) (t : TreeId) (f : HomeIdx → Option Bool) :
    (s.setTestDark t f).buildDue = s.buildDue := rfl
@[simp] theorem State.setTestDark_epochDue (s : State) (t : TreeId) (f : HomeIdx → Option Bool) :
    (s.setTestDark t f).epochDue = s.epochDue := rfl
@[simp] theorem State.setTestDark_bus (s : State) (t : TreeId) (f : HomeIdx → Option Bool) :
    (s.setTestDark t f).bus = s.bus := rfl
@[simp] theorem State.setTestDark_share (s : State) (t : TreeId) (f : HomeIdx → Option Bool) :
    (s.setTestDark t f).share = s.share := rfl
@[simp] theorem State.setTestDark_treePointer (s : State) (t : TreeId) (f : HomeIdx → Option Bool) :
    (s.setTestDark t f).treePointer = s.treePointer := rfl
@[simp] theorem State.setTestDark_meter (s : State) (t : TreeId) (f : HomeIdx → Option Bool) :
    (s.setTestDark t f).meter = s.meter := rfl
@[simp] theorem State.setTestDark_serialIndex (s : State) (t : TreeId) (f : HomeIdx → Option Bool) :
    (s.setTestDark t f).serialIndex = s.serialIndex := rfl
@[simp] theorem State.setTestDark_outputs (s : State) (t : TreeId) (f : HomeIdx → Option Bool) :
    (s.setTestDark t f).outputs = s.outputs := rfl

/-! `queueWord` changes trees only. -/

@[simp] theorem State.queueWord_pending (s : State) (t : TreeId) (w : ControlWord) :
    (s.queueWord t w).pending = s.pending := rfl
@[simp] theorem State.queueWord_inFlight (s : State) (t : TreeId) (w : ControlWord) :
    (s.queueWord t w).inFlight = s.inFlight := rfl
@[simp] theorem State.queueWord_inReset (s : State) (t : TreeId) (w : ControlWord) :
    (s.queueWord t w).inReset = s.inReset := rfl
@[simp] theorem State.queueWord_round (s : State) (t : TreeId) (w : ControlWord) :
    (s.queueWord t w).round = s.round := rfl
@[simp] theorem State.queueWord_buildDue (s : State) (t : TreeId) (w : ControlWord) :
    (s.queueWord t w).buildDue = s.buildDue := rfl
@[simp] theorem State.queueWord_epochDue (s : State) (t : TreeId) (w : ControlWord) :
    (s.queueWord t w).epochDue = s.epochDue := rfl
@[simp] theorem State.queueWord_bus (s : State) (t : TreeId) (w : ControlWord) :
    (s.queueWord t w).bus = s.bus := rfl
@[simp] theorem State.queueWord_share (s : State) (t : TreeId) (w : ControlWord) :
    (s.queueWord t w).share = s.share := rfl
@[simp] theorem State.queueWord_treePointer (s : State) (t : TreeId) (w : ControlWord) :
    (s.queueWord t w).treePointer = s.treePointer := rfl
@[simp] theorem State.queueWord_meter (s : State) (t : TreeId) (w : ControlWord) :
    (s.queueWord t w).meter = s.meter := rfl
@[simp] theorem State.queueWord_serialIndex (s : State) (t : TreeId) (w : ControlWord) :
    (s.queueWord t w).serialIndex = s.serialIndex := rfl
@[simp] theorem State.queueWord_outputs (s : State) (t : TreeId) (w : ControlWord) :
    (s.queueWord t w).outputs = s.outputs := rfl

/-! `modBus` changes bus only. -/

@[simp] theorem State.modBus_bus (s : State) (f : Bus → Bus) : (s.modBus f).bus = f s.bus := rfl
@[simp] theorem State.modBus_pending (s : State) (f : Bus → Bus) :
    (s.modBus f).pending = s.pending := rfl
@[simp] theorem State.modBus_inFlight (s : State) (f : Bus → Bus) :
    (s.modBus f).inFlight = s.inFlight := rfl
@[simp] theorem State.modBus_inReset (s : State) (f : Bus → Bus) :
    (s.modBus f).inReset = s.inReset := rfl
@[simp] theorem State.modBus_round (s : State) (f : Bus → Bus) : (s.modBus f).round = s.round := rfl
@[simp] theorem State.modBus_buildDue (s : State) (f : Bus → Bus) :
    (s.modBus f).buildDue = s.buildDue := rfl
@[simp] theorem State.modBus_epochDue (s : State) (f : Bus → Bus) :
    (s.modBus f).epochDue = s.epochDue := rfl
@[simp] theorem State.modBus_share (s : State) (f : Bus → Bus) : (s.modBus f).share = s.share := rfl
@[simp] theorem State.modBus_treePointer (s : State) (f : Bus → Bus) :
    (s.modBus f).treePointer = s.treePointer := rfl
@[simp] theorem State.modBus_meter (s : State) (f : Bus → Bus) : (s.modBus f).meter = s.meter := rfl
@[simp] theorem State.modBus_serialIndex (s : State) (f : Bus → Bus) :
    (s.modBus f).serialIndex = s.serialIndex := rfl
@[simp] theorem State.modBus_trees (s : State) (f : Bus → Bus) : (s.modBus f).trees = s.trees := rfl
@[simp] theorem State.modBus_outputs (s : State) (f : Bus → Bus) :
    (s.modBus f).outputs = s.outputs := rfl
@[simp] theorem State.modBus_tree (s : State) (f : Bus → Bus) (u : TreeId) :
    (s.modBus f).tree u = s.tree u := rfl
@[simp] theorem State.modBus_home (s : State) (f : Bus → Bus) (u : TreeId) (k : HomeIdx) :
    (s.modBus f).home u k = s.home u k := rfl
@[simp] theorem State.modBus_record (s : State) (f : Bus → Bus) (u : TreeId) (k : HomeIdx) :
    (s.modBus f).record u k = s.record u k := rfl

/-! `modCounters` changes bus only. -/

@[simp] theorem State.modCounters_bus (s : State) (f : BusCounters → BusCounters) : (s.modCounters f).bus = { s.bus with counters := f s.bus.counters } := rfl
@[simp] theorem State.modCounters_pending (s : State) (f : BusCounters → BusCounters) :
    (s.modCounters f).pending = s.pending := rfl
@[simp] theorem State.modCounters_inFlight (s : State) (f : BusCounters → BusCounters) :
    (s.modCounters f).inFlight = s.inFlight := rfl
@[simp] theorem State.modCounters_inReset (s : State) (f : BusCounters → BusCounters) :
    (s.modCounters f).inReset = s.inReset := rfl
@[simp] theorem State.modCounters_round (s : State) (f : BusCounters → BusCounters) :
    (s.modCounters f).round = s.round := rfl
@[simp] theorem State.modCounters_buildDue (s : State) (f : BusCounters → BusCounters) :
    (s.modCounters f).buildDue = s.buildDue := rfl
@[simp] theorem State.modCounters_epochDue (s : State) (f : BusCounters → BusCounters) :
    (s.modCounters f).epochDue = s.epochDue := rfl
@[simp] theorem State.modCounters_share (s : State) (f : BusCounters → BusCounters) :
    (s.modCounters f).share = s.share := rfl
@[simp] theorem State.modCounters_treePointer (s : State) (f : BusCounters → BusCounters) :
    (s.modCounters f).treePointer = s.treePointer := rfl
@[simp] theorem State.modCounters_meter (s : State) (f : BusCounters → BusCounters) :
    (s.modCounters f).meter = s.meter := rfl
@[simp] theorem State.modCounters_serialIndex (s : State) (f : BusCounters → BusCounters) :
    (s.modCounters f).serialIndex = s.serialIndex := rfl
@[simp] theorem State.modCounters_trees (s : State) (f : BusCounters → BusCounters) :
    (s.modCounters f).trees = s.trees := rfl
@[simp] theorem State.modCounters_outputs (s : State) (f : BusCounters → BusCounters) :
    (s.modCounters f).outputs = s.outputs := rfl
@[simp] theorem State.modCounters_tree (s : State) (f : BusCounters → BusCounters) (u : TreeId) :
    (s.modCounters f).tree u = s.tree u := rfl
@[simp] theorem State.modCounters_home (s : State) (f : BusCounters → BusCounters) (u : TreeId) (k : HomeIdx) :
    (s.modCounters f).home u k = s.home u k := rfl
@[simp] theorem State.modCounters_record (s : State) (f : BusCounters → BusCounters) (u : TreeId) (k : HomeIdx) :
    (s.modCounters f).record u k = s.record u k := rfl

/-! `setQueue` changes bus only. -/

@[simp] theorem State.setQueue_bus (s : State) (q : List TxEntry) : (s.setQueue q).bus = { s.bus with queue := q } := rfl
@[simp] theorem State.setQueue_pending (s : State) (q : List TxEntry) :
    (s.setQueue q).pending = s.pending := rfl
@[simp] theorem State.setQueue_inFlight (s : State) (q : List TxEntry) :
    (s.setQueue q).inFlight = s.inFlight := rfl
@[simp] theorem State.setQueue_inReset (s : State) (q : List TxEntry) :
    (s.setQueue q).inReset = s.inReset := rfl
@[simp] theorem State.setQueue_round (s : State) (q : List TxEntry) :
    (s.setQueue q).round = s.round := rfl
@[simp] theorem State.setQueue_buildDue (s : State) (q : List TxEntry) :
    (s.setQueue q).buildDue = s.buildDue := rfl
@[simp] theorem State.setQueue_epochDue (s : State) (q : List TxEntry) :
    (s.setQueue q).epochDue = s.epochDue := rfl
@[simp] theorem State.setQueue_share (s : State) (q : List TxEntry) :
    (s.setQueue q).share = s.share := rfl
@[simp] theorem State.setQueue_treePointer (s : State) (q : List TxEntry) :
    (s.setQueue q).treePointer = s.treePointer := rfl
@[simp] theorem State.setQueue_meter (s : State) (q : List TxEntry) :
    (s.setQueue q).meter = s.meter := rfl
@[simp] theorem State.setQueue_serialIndex (s : State) (q : List TxEntry) :
    (s.setQueue q).serialIndex = s.serialIndex := rfl
@[simp] theorem State.setQueue_trees (s : State) (q : List TxEntry) :
    (s.setQueue q).trees = s.trees := rfl
@[simp] theorem State.setQueue_outputs (s : State) (q : List TxEntry) :
    (s.setQueue q).outputs = s.outputs := rfl
@[simp] theorem State.setQueue_tree (s : State) (q : List TxEntry) (u : TreeId) :
    (s.setQueue q).tree u = s.tree u := rfl
@[simp] theorem State.setQueue_home (s : State) (q : List TxEntry) (u : TreeId) (k : HomeIdx) :
    (s.setQueue q).home u k = s.home u k := rfl
@[simp] theorem State.setQueue_record (s : State) (q : List TxEntry) (u : TreeId) (k : HomeIdx) :
    (s.setQueue q).record u k = s.record u k := rfl

/-! `countDropped` changes bus only. -/

@[simp] theorem State.countDropped_pending (s : State) : (s.countDropped).pending = s.pending := rfl
@[simp] theorem State.countDropped_inFlight (s : State) :
    (s.countDropped).inFlight = s.inFlight := rfl
@[simp] theorem State.countDropped_inReset (s : State) : (s.countDropped).inReset = s.inReset := rfl
@[simp] theorem State.countDropped_round (s : State) : (s.countDropped).round = s.round := rfl
@[simp] theorem State.countDropped_buildDue (s : State) :
    (s.countDropped).buildDue = s.buildDue := rfl
@[simp] theorem State.countDropped_epochDue (s : State) :
    (s.countDropped).epochDue = s.epochDue := rfl
@[simp] theorem State.countDropped_share (s : State) : (s.countDropped).share = s.share := rfl
@[simp] theorem State.countDropped_treePointer (s : State) :
    (s.countDropped).treePointer = s.treePointer := rfl
@[simp] theorem State.countDropped_meter (s : State) : (s.countDropped).meter = s.meter := rfl
@[simp] theorem State.countDropped_serialIndex (s : State) :
    (s.countDropped).serialIndex = s.serialIndex := rfl
@[simp] theorem State.countDropped_trees (s : State) : (s.countDropped).trees = s.trees := rfl
@[simp] theorem State.countDropped_outputs (s : State) : (s.countDropped).outputs = s.outputs := rfl
@[simp] theorem State.countDropped_tree (s : State) (u : TreeId) :
    (s.countDropped).tree u = s.tree u := rfl
@[simp] theorem State.countDropped_home (s : State) (u : TreeId) (k : HomeIdx) :
    (s.countDropped).home u k = s.home u k := rfl
@[simp] theorem State.countDropped_record (s : State) (u : TreeId) (k : HomeIdx) :
    (s.countDropped).record u k = s.record u k := rfl

/-! `modMeter` changes meter only. -/

@[simp] theorem State.modMeter_meter (s : State) (f : Meter → Meter) : (s.modMeter f).meter = f s.meter := rfl
@[simp] theorem State.modMeter_pending (s : State) (f : Meter → Meter) :
    (s.modMeter f).pending = s.pending := rfl
@[simp] theorem State.modMeter_inFlight (s : State) (f : Meter → Meter) :
    (s.modMeter f).inFlight = s.inFlight := rfl
@[simp] theorem State.modMeter_inReset (s : State) (f : Meter → Meter) :
    (s.modMeter f).inReset = s.inReset := rfl
@[simp] theorem State.modMeter_round (s : State) (f : Meter → Meter) :
    (s.modMeter f).round = s.round := rfl
@[simp] theorem State.modMeter_buildDue (s : State) (f : Meter → Meter) :
    (s.modMeter f).buildDue = s.buildDue := rfl
@[simp] theorem State.modMeter_epochDue (s : State) (f : Meter → Meter) :
    (s.modMeter f).epochDue = s.epochDue := rfl
@[simp] theorem State.modMeter_bus (s : State) (f : Meter → Meter) :
    (s.modMeter f).bus = s.bus := rfl
@[simp] theorem State.modMeter_share (s : State) (f : Meter → Meter) :
    (s.modMeter f).share = s.share := rfl
@[simp] theorem State.modMeter_treePointer (s : State) (f : Meter → Meter) :
    (s.modMeter f).treePointer = s.treePointer := rfl
@[simp] theorem State.modMeter_serialIndex (s : State) (f : Meter → Meter) :
    (s.modMeter f).serialIndex = s.serialIndex := rfl
@[simp] theorem State.modMeter_trees (s : State) (f : Meter → Meter) :
    (s.modMeter f).trees = s.trees := rfl
@[simp] theorem State.modMeter_outputs (s : State) (f : Meter → Meter) :
    (s.modMeter f).outputs = s.outputs := rfl
@[simp] theorem State.modMeter_tree (s : State) (f : Meter → Meter) (u : TreeId) :
    (s.modMeter f).tree u = s.tree u := rfl
@[simp] theorem State.modMeter_home (s : State) (f : Meter → Meter) (u : TreeId) (k : HomeIdx) :
    (s.modMeter f).home u k = s.home u k := rfl
@[simp] theorem State.modMeter_record (s : State) (f : Meter → Meter) (u : TreeId) (k : HomeIdx) :
    (s.modMeter f).record u k = s.record u k := rfl

/-! `emit` changes outputs only. -/

@[simp] theorem State.emit_outputs (s : State) (o : Output) : (s.emit o).outputs = o :: s.outputs := rfl
@[simp] theorem State.emit_pending (s : State) (o : Output) : (s.emit o).pending = s.pending := rfl
@[simp] theorem State.emit_inFlight (s : State) (o : Output) :
    (s.emit o).inFlight = s.inFlight := rfl
@[simp] theorem State.emit_inReset (s : State) (o : Output) : (s.emit o).inReset = s.inReset := rfl
@[simp] theorem State.emit_round (s : State) (o : Output) : (s.emit o).round = s.round := rfl
@[simp] theorem State.emit_buildDue (s : State) (o : Output) :
    (s.emit o).buildDue = s.buildDue := rfl
@[simp] theorem State.emit_epochDue (s : State) (o : Output) :
    (s.emit o).epochDue = s.epochDue := rfl
@[simp] theorem State.emit_bus (s : State) (o : Output) : (s.emit o).bus = s.bus := rfl
@[simp] theorem State.emit_share (s : State) (o : Output) : (s.emit o).share = s.share := rfl
@[simp] theorem State.emit_treePointer (s : State) (o : Output) :
    (s.emit o).treePointer = s.treePointer := rfl
@[simp] theorem State.emit_meter (s : State) (o : Output) : (s.emit o).meter = s.meter := rfl
@[simp] theorem State.emit_serialIndex (s : State) (o : Output) :
    (s.emit o).serialIndex = s.serialIndex := rfl
@[simp] theorem State.emit_trees (s : State) (o : Output) : (s.emit o).trees = s.trees := rfl
@[simp] theorem State.emit_tree (s : State) (o : Output) (u : TreeId) :
    (s.emit o).tree u = s.tree u := rfl
@[simp] theorem State.emit_home (s : State) (o : Output) (u : TreeId) (k : HomeIdx) :
    (s.emit o).home u k = s.home u k := rfl
@[simp] theorem State.emit_record (s : State) (o : Output) (u : TreeId) (k : HomeIdx) :
    (s.emit o).record u k = s.record u k := rfl

/-! `raise` changes inFlight only. -/

@[simp] theorem State.raise_inFlight (s : State) (c : Instr) : (s.raise c).inFlight = s.inFlight ++ [c] := rfl
@[simp] theorem State.raise_pending (s : State) (c : Instr) : (s.raise c).pending = s.pending := rfl
@[simp] theorem State.raise_inReset (s : State) (c : Instr) : (s.raise c).inReset = s.inReset := rfl
@[simp] theorem State.raise_round (s : State) (c : Instr) : (s.raise c).round = s.round := rfl
@[simp] theorem State.raise_buildDue (s : State) (c : Instr) :
    (s.raise c).buildDue = s.buildDue := rfl
@[simp] theorem State.raise_epochDue (s : State) (c : Instr) :
    (s.raise c).epochDue = s.epochDue := rfl
@[simp] theorem State.raise_bus (s : State) (c : Instr) : (s.raise c).bus = s.bus := rfl
@[simp] theorem State.raise_share (s : State) (c : Instr) : (s.raise c).share = s.share := rfl
@[simp] theorem State.raise_treePointer (s : State) (c : Instr) :
    (s.raise c).treePointer = s.treePointer := rfl
@[simp] theorem State.raise_meter (s : State) (c : Instr) : (s.raise c).meter = s.meter := rfl
@[simp] theorem State.raise_serialIndex (s : State) (c : Instr) :
    (s.raise c).serialIndex = s.serialIndex := rfl
@[simp] theorem State.raise_trees (s : State) (c : Instr) : (s.raise c).trees = s.trees := rfl
@[simp] theorem State.raise_outputs (s : State) (c : Instr) : (s.raise c).outputs = s.outputs := rfl
@[simp] theorem State.raise_tree (s : State) (c : Instr) (u : TreeId) :
    (s.raise c).tree u = s.tree u := rfl
@[simp] theorem State.raise_home (s : State) (c : Instr) (u : TreeId) (k : HomeIdx) :
    (s.raise c).home u k = s.home u k := rfl
@[simp] theorem State.raise_record (s : State) (c : Instr) (u : TreeId) (k : HomeIdx) :
    (s.raise c).record u k = s.record u k := rfl

/-! `take` changes inFlight only. -/

@[simp] theorem State.take_inFlight (s : State) (c : Instr) : (s.take c).inFlight = s.inFlight.erase c := rfl
@[simp] theorem State.take_pending (s : State) (c : Instr) : (s.take c).pending = s.pending := rfl
@[simp] theorem State.take_inReset (s : State) (c : Instr) : (s.take c).inReset = s.inReset := rfl
@[simp] theorem State.take_round (s : State) (c : Instr) : (s.take c).round = s.round := rfl
@[simp] theorem State.take_buildDue (s : State) (c : Instr) :
    (s.take c).buildDue = s.buildDue := rfl
@[simp] theorem State.take_epochDue (s : State) (c : Instr) :
    (s.take c).epochDue = s.epochDue := rfl
@[simp] theorem State.take_bus (s : State) (c : Instr) : (s.take c).bus = s.bus := rfl
@[simp] theorem State.take_share (s : State) (c : Instr) : (s.take c).share = s.share := rfl
@[simp] theorem State.take_treePointer (s : State) (c : Instr) :
    (s.take c).treePointer = s.treePointer := rfl
@[simp] theorem State.take_meter (s : State) (c : Instr) : (s.take c).meter = s.meter := rfl
@[simp] theorem State.take_serialIndex (s : State) (c : Instr) :
    (s.take c).serialIndex = s.serialIndex := rfl
@[simp] theorem State.take_trees (s : State) (c : Instr) : (s.take c).trees = s.trees := rfl
@[simp] theorem State.take_outputs (s : State) (c : Instr) : (s.take c).outputs = s.outputs := rfl
@[simp] theorem State.take_tree (s : State) (c : Instr) (u : TreeId) :
    (s.take c).tree u = s.tree u := rfl
@[simp] theorem State.take_home (s : State) (c : Instr) (u : TreeId) (k : HomeIdx) :
    (s.take c).home u k = s.home u k := rfl
@[simp] theorem State.take_record (s : State) (c : Instr) (u : TreeId) (k : HomeIdx) :
    (s.take c).record u k = s.record u k := rfl

/-! `indexSerial` changes serialIndex only. -/

@[simp] theorem State.indexSerial_pending (s : State) (serial : Serial) (t : TreeId) (h : HomeIdx) :
    (s.indexSerial serial t h).pending = s.pending := rfl
@[simp] theorem State.indexSerial_inFlight (s : State) (serial : Serial) (t : TreeId) (h : HomeIdx) :
    (s.indexSerial serial t h).inFlight = s.inFlight := rfl
@[simp] theorem State.indexSerial_inReset (s : State) (serial : Serial) (t : TreeId) (h : HomeIdx) :
    (s.indexSerial serial t h).inReset = s.inReset := rfl
@[simp] theorem State.indexSerial_round (s : State) (serial : Serial) (t : TreeId) (h : HomeIdx) :
    (s.indexSerial serial t h).round = s.round := rfl
@[simp] theorem State.indexSerial_buildDue (s : State) (serial : Serial) (t : TreeId) (h : HomeIdx) :
    (s.indexSerial serial t h).buildDue = s.buildDue := rfl
@[simp] theorem State.indexSerial_epochDue (s : State) (serial : Serial) (t : TreeId) (h : HomeIdx) :
    (s.indexSerial serial t h).epochDue = s.epochDue := rfl
@[simp] theorem State.indexSerial_bus (s : State) (serial : Serial) (t : TreeId) (h : HomeIdx) :
    (s.indexSerial serial t h).bus = s.bus := rfl
@[simp] theorem State.indexSerial_share (s : State) (serial : Serial) (t : TreeId) (h : HomeIdx) :
    (s.indexSerial serial t h).share = s.share := rfl
@[simp] theorem State.indexSerial_treePointer (s : State) (serial : Serial) (t : TreeId) (h : HomeIdx) :
    (s.indexSerial serial t h).treePointer = s.treePointer := rfl
@[simp] theorem State.indexSerial_meter (s : State) (serial : Serial) (t : TreeId) (h : HomeIdx) :
    (s.indexSerial serial t h).meter = s.meter := rfl
@[simp] theorem State.indexSerial_trees (s : State) (serial : Serial) (t : TreeId) (h : HomeIdx) :
    (s.indexSerial serial t h).trees = s.trees := rfl
@[simp] theorem State.indexSerial_outputs (s : State) (serial : Serial) (t : TreeId) (h : HomeIdx) :
    (s.indexSerial serial t h).outputs = s.outputs := rfl
@[simp] theorem State.indexSerial_tree (s : State) (serial : Serial) (t : TreeId) (h : HomeIdx) (u : TreeId) :
    (s.indexSerial serial t h).tree u = s.tree u := rfl
@[simp] theorem State.indexSerial_home (s : State) (serial : Serial) (t : TreeId) (h : HomeIdx) (u : TreeId) (k : HomeIdx) :
    (s.indexSerial serial t h).home u k = s.home u k := rfl
@[simp] theorem State.indexSerial_record (s : State) (serial : Serial) (t : TreeId) (h : HomeIdx) (u : TreeId) (k : HomeIdx) :
    (s.indexSerial serial t h).record u k = s.record u k := rfl

/-! `unindex` changes serialIndex only. -/

@[simp] theorem State.unindex_pending (s : State) (t : TreeId) (h : HomeIdx) :
    (s.unindex t h).pending = s.pending := rfl
@[simp] theorem State.unindex_inFlight (s : State) (t : TreeId) (h : HomeIdx) :
    (s.unindex t h).inFlight = s.inFlight := rfl
@[simp] theorem State.unindex_inReset (s : State) (t : TreeId) (h : HomeIdx) :
    (s.unindex t h).inReset = s.inReset := rfl
@[simp] theorem State.unindex_round (s : State) (t : TreeId) (h : HomeIdx) :
    (s.unindex t h).round = s.round := rfl
@[simp] theorem State.unindex_buildDue (s : State) (t : TreeId) (h : HomeIdx) :
    (s.unindex t h).buildDue = s.buildDue := rfl
@[simp] theorem State.unindex_epochDue (s : State) (t : TreeId) (h : HomeIdx) :
    (s.unindex t h).epochDue = s.epochDue := rfl
@[simp] theorem State.unindex_bus (s : State) (t : TreeId) (h : HomeIdx) :
    (s.unindex t h).bus = s.bus := rfl
@[simp] theorem State.unindex_share (s : State) (t : TreeId) (h : HomeIdx) :
    (s.unindex t h).share = s.share := rfl
@[simp] theorem State.unindex_treePointer (s : State) (t : TreeId) (h : HomeIdx) :
    (s.unindex t h).treePointer = s.treePointer := rfl
@[simp] theorem State.unindex_meter (s : State) (t : TreeId) (h : HomeIdx) :
    (s.unindex t h).meter = s.meter := rfl
@[simp] theorem State.unindex_trees (s : State) (t : TreeId) (h : HomeIdx) :
    (s.unindex t h).trees = s.trees := rfl
@[simp] theorem State.unindex_outputs (s : State) (t : TreeId) (h : HomeIdx) :
    (s.unindex t h).outputs = s.outputs := rfl
@[simp] theorem State.unindex_tree (s : State) (t : TreeId) (h : HomeIdx) (u : TreeId) :
    (s.unindex t h).tree u = s.tree u := rfl
@[simp] theorem State.unindex_home (s : State) (t : TreeId) (h : HomeIdx) (u : TreeId) (k : HomeIdx) :
    (s.unindex t h).home u k = s.home u k := rfl
@[simp] theorem State.unindex_record (s : State) (t : TreeId) (h : HomeIdx) (u : TreeId) (k : HomeIdx) :
    (s.unindex t h).record u k = s.record u k := rfl

end Sys2Proof.Machine
end

