-- ==== Sys2Proof/Laws/Ops.lean ====
section
/-! SUPPORT. For each shared operation of Machine/Ops.lean, what it can do and what it leaves alone. -/

namespace Sys2Proof.Machine

/-! ### The frames are transitive and hold of a state with itself -/

theorem State.sameClock_refl (s : State) : s.sameClock s := ⟨rfl, rfl, rfl, rfl, rfl⟩

theorem Bus.sameStation_refl (b : Bus) : b.sameStation b := ⟨rfl, rfl, rfl, rfl, rfl, rfl, rfl, rfl⟩

theorem State.sameChip_refl (s : State) : s.sameChip s :=
  ⟨s.sameClock_refl, s.bus.sameStation_refl, rfl, rfl⟩

theorem Tree.sameLine_refl (a : Tree) : a.sameLine a := ⟨rfl, rfl, rfl, rfl, rfl, rfl, rfl, rfl⟩

theorem State.onlyHome_refl (s : State) (u : TreeId) (h : HomeIdx) : s.onlyHome s u h :=
  ⟨s.sameChip_refl, fun _ _ => rfl, (s.tree u).sameLine_refl, fun _ _ => rfl⟩

theorem State.sameClock.trans {a b c : State} (h : a.sameClock b) (k : b.sameClock c) : a.sameClock c := by
  simp_all [State.sameClock]

theorem Bus.sameStation.trans {a b c : Bus} (h : a.sameStation b) (k : b.sameStation c) :
    a.sameStation c := by
  simp_all [Bus.sameStation]

theorem State.sameChip.trans {a b c : State} (h : a.sameChip b) (k : b.sameChip c) : a.sameChip c :=
  ⟨h.1.trans k.1, h.2.1.trans k.2.1, k.2.2.1.trans h.2.2.1, k.2.2.2.trans h.2.2.2⟩

theorem Tree.sameLine.trans {a b c : Tree} (h : a.sameLine b) (k : b.sameLine c) : a.sameLine c := by
  simp_all [Tree.sameLine]

theorem State.onlyHome.trans {a b c : State} {u : TreeId} {h : HomeIdx} (p : a.onlyHome b u h)
    (q : b.onlyHome c u h) : a.onlyHome c u h :=
  ⟨p.1.trans q.1, fun v hv => (q.2.1 v hv).trans (p.2.1 v hv), p.2.2.1.trans q.2.2.1,
    fun k hk => (q.2.2.2 k hk).trans (p.2.2.2 k hk)⟩

/-! ### A command outside a reset -/

theorem State.whileUp_up {s : State} (h : s.inReset = none) (t : State) : s.whileUp t = .next t := by
  simp [State.whileUp, h]

theorem State.whileUp_inReset {s : State} {c : ResetCause} (h : s.inReset = some c) (t : State) :
    s.whileUp t = .next s := by
  simp [State.whileUp, h]

@[simp] theorem State.take_lookup (s : State) (c : Instr) (x : Serial) :
    (s.take c).lookup x = s.lookup x := rfl

@[simp] theorem State.take_cfg (s : State) (c : Instr) : (s.take c).cfg = s.cfg := rfl

/-! ### Posting (R55 to R58) -/

/-- What telling a producer leaves alone: everything but the outputs and the reports in flight. -/
theorem State.tell_eq (s : State) (fin : EntryEnd) (e : TxEntry) :
    s.tell fin e = { s with outputs := .told fin e :: s.outputs,
                            inFlight := (s.tell fin e).inFlight } := by
  unfold State.tell
  rcases e.handle with _ | h <;> cases fin <;> rfl

/-- Posting changes the transmit queue, the dropped messages counter, the outputs and the reports in
flight, and nothing else. -/
theorem State.postEntry_eq (s : State) (e : TxEntry) :
    s.postEntry e = { s with
      bus := { s.bus with
        queue := (s.postEntry e).bus.queue
        counters := { s.bus.counters with dropped := (s.postEntry e).bus.counters.dropped } }
      outputs := (s.postEntry e).outputs
      inFlight := (s.postEntry e).inFlight } := by
  unfold State.postEntry
  dsimp only
  split
  · rw [State.tell_eq]; rfl
  · split
    · rfl
    · split
      · split
        · rw [State.tell_eq]; rfl
        · rw [State.tell_eq]; rfl
      · rw [State.tell_eq]; rfl

section posting
variable (s : State) (e : TxEntry) (p : Block) (d : Nat) (m : Msg) (k : Handle) (serial : Serial)

@[simp] theorem State.postEntry_pending : (s.postEntry e).pending = s.pending := by
  rw [State.postEntry_eq]
@[simp] theorem State.postEntry_inReset : (s.postEntry e).inReset = s.inReset := by
  rw [State.postEntry_eq]
@[simp] theorem State.postEntry_round : (s.postEntry e).round = s.round := by
  rw [State.postEntry_eq]
@[simp] theorem State.postEntry_buildDue : (s.postEntry e).buildDue = s.buildDue := by
  rw [State.postEntry_eq]
@[simp] theorem State.postEntry_epochDue : (s.postEntry e).epochDue = s.epochDue := by
  rw [State.postEntry_eq]
@[simp] theorem State.postEntry_share : (s.postEntry e).share = s.share := by
  rw [State.postEntry_eq]
@[simp] theorem State.postEntry_treePointer : (s.postEntry e).treePointer = s.treePointer := by
  rw [State.postEntry_eq]
@[simp] theorem State.postEntry_meter : (s.postEntry e).meter = s.meter := by
  rw [State.postEntry_eq]
@[simp] theorem State.postEntry_serialIndex : (s.postEntry e).serialIndex = s.serialIndex := by
  rw [State.postEntry_eq]
@[simp] theorem State.postEntry_trees : (s.postEntry e).trees = s.trees := by
  rw [State.postEntry_eq]
@[simp] theorem State.postEntry_settings : (s.postEntry e).bus.settings = s.bus.settings := by
  rw [State.postEntry_eq]
@[simp] theorem State.postEntry_chipState : (s.postEntry e).bus.chipState = s.bus.chipState := by
  rw [State.postEntry_eq]

theorem State.postEntry_sameStation : s.bus.sameStation (s.postEntry e).bus := by
  rw [State.postEntry_eq]
  exact ⟨rfl, rfl, rfl, rfl, rfl, rfl, rfl, rfl⟩

theorem State.postEntry_sameChip : s.sameChip (s.postEntry e) :=
  ⟨⟨by simp, by simp, by simp, by simp, by simp⟩, s.postEntry_sameStation e, by simp, by simp⟩

theorem State.post_onlyPosts : s.onlyPosts (s.post p d m) :=
  ⟨s.postEntry_sameChip _, s.postEntry_trees _, s.postEntry_serialIndex _, s.postEntry_meter _⟩

@[simp] theorem State.post_pending : (s.post p d m).pending = s.pending := s.postEntry_pending _
@[simp] theorem State.post_inReset : (s.post p d m).inReset = s.inReset := s.postEntry_inReset _
@[simp] theorem State.post_round : (s.post p d m).round = s.round := s.postEntry_round _
@[simp] theorem State.post_buildDue : (s.post p d m).buildDue = s.buildDue := s.postEntry_buildDue _
@[simp] theorem State.post_epochDue : (s.post p d m).epochDue = s.epochDue := s.postEntry_epochDue _
@[simp] theorem State.post_share : (s.post p d m).share = s.share := s.postEntry_share _
@[simp] theorem State.post_treePointer : (s.post p d m).treePointer = s.treePointer :=
  s.postEntry_treePointer _
@[simp] theorem State.post_meter : (s.post p d m).meter = s.meter := s.postEntry_meter _
@[simp] theorem State.post_serialIndex : (s.post p d m).serialIndex = s.serialIndex :=
  s.postEntry_serialIndex _
@[simp] theorem State.post_trees : (s.post p d m).trees = s.trees := s.postEntry_trees _
@[simp] theorem State.post_settings : (s.post p d m).bus.settings = s.bus.settings :=
  s.postEntry_settings _
@[simp] theorem State.post_chipState : (s.post p d m).bus.chipState = s.bus.chipState :=
  s.postEntry_chipState _

@[simp] theorem State.post_tree (u : TreeId) : (s.post p d m).tree u = s.tree u := by
  simp [State.tree]
@[simp] theorem State.post_home (u : TreeId) (h : HomeIdx) : (s.post p d m).home u h = s.home u h := by
  simp [State.home]
@[simp] theorem State.post_record (u : TreeId) (h : HomeIdx) :
    (s.post p d m).record u h = s.record u h := by
  simp [State.record]
@[simp] theorem State.post_cfg : (s.post p d m).cfg = s.cfg := by simp [State.cfg]
@[simp] theorem State.post_enabled (u : TreeId) : (s.post p d m).enabled u = s.enabled u := by
  simp [State.enabled, State.running]

theorem State.post_onlyHome (u : TreeId) (h : HomeIdx) : s.onlyHome (s.post p d m) u h :=
  ⟨s.postEntry_sameChip _, fun _ _ => by simp, by simpa using (s.tree u).sameLine_refl, by simp⟩

end posting

/-! ### Traffic -/

theorem State.sameTraffic_refl (s : State) : s.sameTraffic s := ⟨rfl, rfl, rfl⟩

theorem State.sameTraffic.trans {a b c : State} (h : a.sameTraffic b) (k : b.sameTraffic c) :
    a.sameTraffic c :=
  ⟨k.1.trans h.1, k.2.1.trans h.2.1, k.2.2.trans h.2.2⟩

/-- Changes of the trees leave the traffic alone. -/
theorem State.sameTraffic_queueWord {a b : State} (h : a.sameTraffic b) (t : TreeId) (w : ControlWord) :
    a.sameTraffic (b.queueWord t w) := ⟨h.1, h.2.1, h.2.2⟩

theorem State.sameTraffic_modHome {a b : State} (h : a.sameTraffic b) (t : TreeId) (k : HomeIdx)
    (f : Home → Home) : a.sameTraffic (b.modHome t k f) := ⟨h.1, h.2.1, h.2.2⟩

theorem State.sameTraffic_modRecord {a b : State} (h : a.sameTraffic b) (t : TreeId) (k : HomeIdx)
    (f : HomeRecord → HomeRecord) : a.sameTraffic (b.modRecord t k f) := ⟨h.1, h.2.1, h.2.2⟩

theorem State.sameTraffic_modTree {a b : State} (h : a.sameTraffic b) (t : TreeId) (f : Tree → Tree) :
    a.sameTraffic (b.modTree t f) := ⟨h.1, h.2.1, h.2.2⟩

theorem State.sameTraffic_modMeter {a b : State} (h : a.sameTraffic b) (f : Meter → Meter) :
    a.sameTraffic (b.modMeter f) := ⟨h.1, h.2.1, h.2.2⟩

theorem State.sameTraffic_tell {a b : State} (h : a.sameTraffic b) (fin : EntryEnd) (e : TxEntry) :
    (a.tell fin e).sameTraffic (b.tell fin e) := by
  obtain ⟨h1, h2, h3⟩ := h
  unfold State.tell
  rcases e.handle with _ | k <;> cases fin <;> simp [State.sameTraffic, h1, h2, h3]

/-- What a post does to the traffic depends on the traffic alone. -/
theorem State.sameTraffic_postEntry {a b : State} (h : a.sameTraffic b) (e : TxEntry) :
    (a.postEntry e).sameTraffic (b.postEntry e) := by
  have h1 := h.1
  unfold State.postEntry
  dsimp only
  rw [h1]
  have k : ∀ q, (a.setQueue q).sameTraffic (b.setQueue q) := fun q => ⟨by simp [h1], h.2.1, h.2.2⟩
  have c : ∀ x y : State, x.sameTraffic y → x.countDropped.sameTraffic y.countDropped := by
    intro x y hxy
    exact ⟨by simp [State.countDropped, State.modCounters, hxy.1], hxy.2.1, hxy.2.2⟩
  split
  · exact State.sameTraffic_tell (k _) _ _
  · split
    · exact k _
    · split
      · split
        · exact State.sameTraffic_tell (c _ _ (k _)) _ _
        · exact State.sameTraffic_tell (c _ _ h) _ _
      · exact State.sameTraffic_tell (c _ _ h) _ _

theorem State.sameTraffic_post {a b : State} (h : a.sameTraffic b) (p : Block) (d : Nat) (m : Msg) :
    (a.post p d m).sameTraffic (b.post p d m) := State.sameTraffic_postEntry h _

/-! ### Changes of one home -/

section oneHome
variable (s : State) (t : TreeId) (h : HomeIdx)

theorem State.modHome_onlyHome (f : Home → Home) : s.onlyHome (s.modHome t h f) t h :=
  ⟨s.sameChip_refl, fun v hv => by simp [hv], by simp [Tree.sameLine],
    fun k hk => State.home_modHome_other _ _ _ _ _ _ (.inr hk)⟩

theorem State.modRecord_onlyHome (f : HomeRecord → HomeRecord) : s.onlyHome (s.modRecord t h f) t h :=
  s.modHome_onlyHome t h _

theorem State.setLight_onlyHome (l : Light) : s.onlyHome (s.setLight t l) t h :=
  ⟨s.sameChip_refl, fun v hv => by simp [hv], by simp [Tree.sameLine],
    fun k _ => by simp⟩

theorem State.queueWord_onlyHome (w : ControlWord) : s.onlyHome (s.queueWord t w) t h :=
  ⟨s.sameChip_refl, fun v hv => by simp [hv], by simp [Tree.sameLine],
    fun k _ => by simp⟩

theorem State.onlyHome_of_trees {a b : State} (hc : a.sameChip b) (ht : b.trees = a.trees) :
    a.onlyHome b t h :=
  ⟨hc, fun v _ => by simp [State.tree, ht], by simpa [State.tree, ht] using (a.tree t).sameLine_refl,
    fun k _ => by simp [State.home, State.tree, ht]⟩

theorem State.unindex_onlyHome (u : TreeId) (k : HomeIdx) : s.onlyHome (s.unindex u k) t h :=
  State.onlyHome_of_trees _ _ s.sameChip_refl rfl

theorem State.indexSerial_onlyHome (x : Serial) (u : TreeId) (k : HomeIdx) :
    s.onlyHome (s.indexSerial x u k) t h :=
  State.onlyHome_of_trees _ _ s.sameChip_refl rfl

theorem State.take_onlyHome (c : Instr) : s.onlyHome (s.take c) t h :=
  State.onlyHome_of_trees _ _ s.sameChip_refl rfl

theorem State.raise_onlyHome (c : Instr) : s.onlyHome (s.raise c) t h :=
  State.onlyHome_of_trees _ _ s.sameChip_refl rfl

theorem State.modMeter_onlyHome (f : Meter → Meter) : s.onlyHome (s.modMeter f) t h :=
  State.onlyHome_of_trees _ _ s.sameChip_refl rfl

theorem State.alarm_onlyHome (a : Alarm) : s.onlyHome (s.alarm a) t h := s.post_onlyHome _ _ _ t h

theorem State.alarmRelapseLimit_onlyHome : s.onlyHome (s.alarmRelapseLimit t h) t h := by
  unfold State.alarmRelapseLimit
  split
  · exact s.alarm_onlyHome t h _
  · exact s.onlyHome_refl t h

theorem State.removeCandidate_onlyHome : s.onlyHome (s.removeCandidate t h) t h := by
  unfold State.removeCandidate
  split
  · exact (s.setLight_onlyHome t h _).trans (State.modRecord_onlyHome _ t h _)
  all_goals exact s.onlyHome_refl t h

theorem State.noticeVerify_onlyHome (new : RecordState) (cause : Cause) :
    s.onlyHome (s.noticeVerify t h new cause) t h := by
  unfold State.noticeVerify
  repeat' split
  all_goals first | exact s.onlyHome_refl t h | exact s.setLight_onlyHome t h _

/-- Both branches of a test leave the rest alone. -/
theorem State.onlyHome_ite {a b : State} {c : Prop} [Decidable c] (ha : s.onlyHome a t h)
    (hb : s.onlyHome b t h) : s.onlyHome (if c then a else b) t h := by
  split <;> assumption

theorem State.noticeMonitor_onlyHome (new : RecordState) (cause : Cause) :
    s.onlyHome (s.noticeMonitor t h new cause) t h :=
  (((s.modRecord_onlyHome t h _).trans
    (State.onlyHome_ite _ t h (State.removeCandidate_onlyHome _ t h) (State.onlyHome_refl _ t h))).trans
      (State.noticeVerify_onlyHome _ t h new cause)).trans
        (State.onlyHome_ite _ t h
          ((State.alarm_onlyHome _ t h _).trans (State.alarmRelapseLimit_onlyHome _ t h))
          (State.onlyHome_refl _ t h))

theorem State.evaluateQuota_onlyHome : s.onlyHome (s.evaluateQuota t h) t h := by
  unfold State.evaluateQuota
  split
  · exact (s.modRecord_onlyHome t h _).trans (State.post_onlyHome _ _ _ _ t h)
  · exact s.onlyHome_refl t h

theorem State.clearThrottle_onlyHome : s.onlyHome (s.clearThrottle t h) t h := by
  unfold State.clearThrottle
  split
  · exact s.onlyHome_refl t h
  · exact s.modRecord_onlyHome t h _

theorem State.reviewQuota_onlyHome : s.onlyHome (s.reviewQuota t h) t h :=
  (s.evaluateQuota_onlyHome t h).trans (State.clearThrottle_onlyHome _ t h)

theorem State.noticeMeter_onlyHome (cause : Cause) : s.onlyHome (s.noticeMeter t h cause) t h := by
  unfold State.noticeMeter
  split
  · exact (s.modHome_onlyHome t h _).trans (State.evaluateQuota_onlyHome _ t h)
  · exact s.onlyHome_refl t h

/-- A change of a record's state changes only that home, its tree's light state and the serial index,
and posts alarms. -/
theorem State.changeState_onlyHome (new : RecordState) (timer : Option Nat) (cause : Cause) :
    s.onlyHome (s.changeState t h new timer cause) t h :=
  (((s.modHome_onlyHome t h _).trans
    (State.onlyHome_ite _ t h (State.unindex_onlyHome _ t h t h) (State.onlyHome_refl _ t h))).trans
      (State.noticeMonitor_onlyHome _ t h new cause)).trans (State.noticeMeter_onlyHome _ t h cause)

theorem State.handOff_onlyHome (reason : DepartedReason) : s.onlyHome (s.handOff t h reason) t h := by
  unfold State.handOff
  dsimp only
  split
  · exact s.onlyHome_refl t h
  · exact (s.modMeter_onlyHome t h _).trans (State.modHome_onlyHome _ t h _)

theorem State.handOffTiered_onlyHome (reason : DepartedReason) :
    s.onlyHome (s.handOffTiered t h reason) t h := by
  unfold State.handOffTiered
  split
  · exact s.handOff_onlyHome t h reason
  · exact s.onlyHome_refl t h

theorem State.freeWithDismiss_onlyHome (cause : Cause) : s.onlyHome (s.freeWithDismiss t h cause) t h :=
  (s.changeState_onlyHome t h _ _ _).trans (State.queueWord_onlyHome _ t h _)

theorem State.departWithDismiss_onlyHome (reason : DepartedReason) (cause : Cause) :
    s.onlyHome (s.departWithDismiss t h reason cause) t h :=
  (s.handOffTiered_onlyHome t h reason).trans (State.freeWithDismiss_onlyHome _ t h cause)

theorem State.contest_onlyHome : s.onlyHome (s.contest t h) t h := s.modRecord_onlyHome t h _

end oneHome

end Sys2Proof.Machine
end

