-- ==== Sys2Proof/Laws/Change.lean ====
section
/-! SUPPORT. A change of a record's state (R28), field by field: the home, the light state, the traffic,
and what stands. -/

namespace Sys2Proof.Machine

/-! ### Trees -/

theorem Tree.modHome_modHome (tr : Tree) (h : HomeIdx) (f g : Home → Home) :
    (tr.modHome h f).modHome h g = tr.modHome h (fun x => g (f x)) := by
  unfold Tree.modHome Tree.home
  simp [get_vectorSet_self]

theorem Tree.modHome_withLight (tr : Tree) (h : HomeIdx) (f : Home → Home) (l : Light) :
    { tr with light := l }.modHome h f = { tr.modHome h f with light := l } := rfl

theorem Tree.home_withLight (tr : Tree) (h : HomeIdx) (l : Light) :
    { tr with light := l }.home h = tr.home h := rfl

theorem Tree.withLight_same (tr : Tree) {l : Light} (e : tr.light = l) : { tr with light := l } = tr := by
  subst e; rfl

theorem Tree.modHome_congr (tr : Tree) (h : HomeIdx) {f g : Home → Home}
    (e : f (tr.home h) = g (tr.home h)) : tr.modHome h f = tr.modHome h g := by
  unfold Tree.modHome
  rw [e]

/-- A change that gives a home its own value changes nothing. -/
theorem Tree.modHome_same (tr : Tree) (h : HomeIdx) {f : Home → Home} (e : f (tr.home h) = tr.home h) :
    tr.modHome h f = tr := by
  unfold Tree.modHome
  rw [e, Tree.home, Vector.get_eq_getElem, Vector.set_getElem_self]

section change
variable (s : State) (t : TreeId) (h : HomeIdx) (new : RecordState) (timer : Option Nat) (cause : Cause)

theorem State.tree_modRecord_self (f : HomeRecord → HomeRecord) :
    (s.modRecord t h f).tree t = (s.tree t).modHome h (fun x => { x with record := f x.record }) :=
  State.tree_modTree_self _ _ _

/-! ### The notices -/

theorem State.alarmRelapseLimit_tree (u : TreeId) : (s.alarmRelapseLimit t h).tree u = s.tree u := by
  unfold State.alarmRelapseLimit State.alarm
  split <;> simp

/-- A candidate removed from the search of its tree (R135). -/
def Light.withoutHome (l : Light) (h : HomeIdx) : Light :=
  match l with
  | .search d => .search { d with testHalf := d.testHalf.filter (· ≠ h), rest := d.rest.filter (· ≠ h) }
  | .clear _ | .verify _ | .foreign _ | .off => l

theorem State.removeCandidate_tree : (s.removeCandidate t h).tree t =
    { (s.tree t).modHome h (fun x => { x with record := { x.record with
        testDark := if (s.tree t).light.isSearch then x.record.testDark.map (fun _ => false)
          else x.record.testDark } }) with
      light := (s.tree t).light.withoutHome h } := by
  unfold State.removeCandidate Light.withoutHome
  split <;> rename_i hd
  · simp [State.tree_modRecord_self, Light.isSearch, hd, Tree.modHome_withLight]
  all_goals
    rw [Tree.modHome_same _ _ (by simp [Light.isSearch, hd]), hd]
    exact (Tree.withLight_same _ hd).symm

theorem State.noticeVerify_tree : (s.noticeVerify t h new cause).tree t =
    { s.tree t with light := match (s.tree t).light with
        | .verify v => Light.afterNotice (.verify v) h (s.record t h).generation new cause
        | l => l } := by
  unfold State.noticeVerify Light.afterNotice
  split <;> rename_i hd
  · simp only [hd]
    split
    · split
      · simp
      · split
        · simp
        · exact (Tree.withLight_same _ hd).symm
    · exact (Tree.withLight_same _ hd).symm
  all_goals
    simp only [hd]
    exact (Tree.withLight_same _ hd).symm

/-- What the Monitor's notice makes of a record. -/
def HomeRecord.noticed (r : HomeRecord) (limit : Nat) (l : Light) (new : RecordState) (cause : Cause) :
    HomeRecord :=
  { r with relapses := relapsesAfter limit cause r.relapses
           testDark := darkAfterNotice l new cause r.testDark }

theorem State.noticeMonitor_tree : (s.noticeMonitor t h new cause).tree t =
    { (s.tree t).modHome h (fun x =>
        { x with record := x.record.noticed s.cfg.relapseLimit (s.tree t).light new cause }) with
      light := (s.tree t).light.afterNotice h (s.record t h).generation new cause } := by
  have alarms : ∀ a : State, (if cause = .scoreQuench then
      (a.alarm (a.rogueScoreAlarm t h)).alarmRelapseLimit t h else a).tree t = a.tree t := by
    intro a
    split
    · rw [State.alarmRelapseLimit_tree]; exact State.post_tree _ _ _ _ _
    · rfl
  unfold State.noticeMonitor
  dsimp only
  rw [alarms, State.noticeVerify_tree]
  by_cases hr : new = .free ∨ cause = .scoreQuench
  · have hg : ((State.removeCandidate (s.modRecord t h fun r =>
        { r with relapses := relapsesAfter s.cfg.relapseLimit cause r.relapses }) t h).record
        t h).generation = (s.record t h).generation := by
      unfold State.record State.home
      rw [State.removeCandidate_tree, Tree.home_withLight, State.tree_modRecord_self]
      simp
    rw [if_pos hr, hg, State.removeCandidate_tree, State.tree_modRecord_self]
    cases hl : (s.tree t).light <;>
      simp [hl, Light.withoutHome, Light.afterNotice, Light.isSearch, Tree.modHome_modHome,
        HomeRecord.noticed, darkAfterNotice, hr]
  · rw [if_neg hr, State.tree_modRecord_self]
    have hn : new ≠ .free ∧ cause ≠ .scoreQuench := by tauto
    cases hl : (s.tree t).light <;>
      simp [hl, Light.afterNotice, HomeRecord.noticed, darkAfterNotice, hn]

/-- A quota that is not reached changes nothing (R151). -/
theorem State.evaluateQuota_of_not_reached (hq : s.quotaReached t h = false) :
    s.evaluateQuota t h = s := by
  simp [State.evaluateQuota, hq]

/-- An entry just made reaches no quota (R145). -/
theorem State.quotaReached_new (hu : (s.home t h).usage = some newUsage) :
    s.quotaReached t h = false := by
  have ht : s.quotaTotal t h = 0 := by
    simp [State.quotaTotal, hu, newUsage, Counters.zero, Count.zero]
  unfold State.quotaReached
  rw [ht]
  split
  · simp; omega
  · rfl

/-- The notice to the Meter makes the usage entry at an admission, and nothing else (R145). -/
theorem State.noticeMeter_eq : s.noticeMeter t h cause =
    if cause = .admission then s.modHome t h (fun x => { x with usage := some newUsage }) else s := by
  unfold State.noticeMeter
  split
  · exact State.evaluateQuota_of_not_reached _ _ _ (State.quotaReached_new _ _ _ (by simp))
  · rfl

/-- What a change of state makes of a home. -/
def Home.changed (x : Home) (limit : Nat) (l : Light) (new : RecordState) (timer : Option Nat)
    (cause : Cause) : Home :=
  { record := (x.record.enter new timer).noticed limit l new cause
    reportSlot := none
    trimHold := none
    usage := if cause = .admission then some newUsage else x.usage }

/-- A change of state, seen at its tree (R28, R126, R135, R141, R145). -/
theorem State.changeState_tree : (s.changeState t h new timer cause).tree t =
    { (s.tree t).modHome h (fun x => x.changed s.cfg.relapseLimit (s.tree t).light new timer cause) with
      light := (s.tree t).light.afterNotice h (s.record t h).generation new cause } := by
  have indexed : ∀ a : State, (if new = .free then a.unindex t h else a).tree t = a.tree t
      ∧ (if new = .free then a.unindex t h else a).cfg = a.cfg
      ∧ (if new = .free then a.unindex t h else a).record t h = a.record t h := by
    intro a; split <;> exact ⟨rfl, rfl, rfl⟩
  unfold State.changeState
  dsimp only
  rw [State.noticeMeter_eq]
  split <;> rename_i hc
  · rw [State.tree_modHome_self, State.noticeMonitor_tree, (indexed _).1, (indexed _).2.1,
      (indexed _).2.2, State.tree_modHome_self]
    simp only [Tree.modHome_withLight, Tree.modHome_modHome]
    simp [Home.changed, hc, Home.enter, State.record, HomeRecord.enter, State.cfg]
  · rw [State.noticeMonitor_tree, (indexed _).1, (indexed _).2.1, (indexed _).2.2,
      State.tree_modHome_self]
    simp only [Tree.modHome_modHome]
    simp [Home.changed, hc, Home.enter, State.record, HomeRecord.enter, State.cfg]

/-- A change of state, seen at the home (R28). -/
theorem State.changeState_home : (s.changeState t h new timer cause).home t h =
    (s.home t h).changed s.cfg.relapseLimit (s.tree t).light new timer cause := by
  unfold State.home
  rw [State.changeState_tree, Tree.home_withLight, Tree.home_modHome_self]

@[simp] theorem State.changeState_tx :
    ((s.changeState t h new timer cause).tree t).tx = (s.tree t).tx := by
  rw [State.changeState_tree]; rfl

theorem State.changeState_light : ((s.changeState t h new timer cause).tree t).light =
    (s.tree t).light.afterNotice h (s.record t h).generation new cause := by
  rw [State.changeState_tree]

/-! ### Traffic, Meter and serial index -/

theorem State.removeCandidate_eq : s.removeCandidate t h =
    { s with trees := (s.removeCandidate t h).trees } := by
  unfold State.removeCandidate
  split <;> rfl

theorem State.noticeVerify_eq : s.noticeVerify t h new cause =
    { s with trees := (s.noticeVerify t h new cause).trees } := by
  unfold State.noticeVerify
  repeat' split
  all_goals rfl

/-- The Monitor's notice without its alarms. -/
def State.noticedTrees : State :=
  let s := s.modRecord t h (fun r =>
    { r with relapses := relapsesAfter s.cfg.relapseLimit cause r.relapses })
  let s := if new = .free ∨ cause = .scoreQuench then s.removeCandidate t h else s
  s.noticeVerify t h new cause

theorem State.noticedTrees_eq : s.noticedTrees t h new cause =
    { s with trees := (s.noticedTrees t h new cause).trees } := by
  unfold State.noticedTrees
  dsimp only
  rw [State.noticeVerify_eq]
  split
  · rw [State.removeCandidate_eq]; rfl
  · rfl

theorem State.noticeMonitor_eq : s.noticeMonitor t h new cause =
    if cause = .scoreQuench then
      ((s.noticedTrees t h new cause).alarm
        ((s.noticedTrees t h new cause).rogueScoreAlarm t h)).alarmRelapseLimit t h
    else s.noticedTrees t h new cause := rfl

theorem State.alarmRelapseLimit_meter : (s.alarmRelapseLimit t h).meter = s.meter := by
  unfold State.alarmRelapseLimit State.alarm
  split <;> simp

theorem State.alarmRelapseLimit_serialIndex :
    (s.alarmRelapseLimit t h).serialIndex = s.serialIndex := by
  unfold State.alarmRelapseLimit State.alarm
  split <;> simp

@[simp] theorem State.noticeMonitor_meter : (s.noticeMonitor t h new cause).meter = s.meter := by
  rw [State.noticeMonitor_eq, State.noticedTrees_eq]
  split
  · rw [State.alarmRelapseLimit_meter]; exact State.post_meter _ _ _ _
  · rfl

@[simp] theorem State.noticeMonitor_serialIndex :
    (s.noticeMonitor t h new cause).serialIndex = s.serialIndex := by
  rw [State.noticeMonitor_eq, State.noticedTrees_eq]
  split
  · rw [State.alarmRelapseLimit_serialIndex]; exact State.post_serialIndex _ _ _ _
  · rfl

/-- A change of state leaves the Meter's tables alone. -/
@[simp] theorem State.changeState_meter : (s.changeState t h new timer cause).meter = s.meter := by
  unfold State.changeState
  dsimp only
  rw [State.noticeMeter_eq]
  split <;> split <;> simp

/-- A change to FREE, and no other, takes the record out of the serial index (R31). -/
theorem State.changeState_serialIndex : (s.changeState t h new timer cause).serialIndex =
    if new = .free then (s.unindex t h).serialIndex else s.serialIndex := by
  unfold State.changeState
  dsimp only
  rw [State.noticeMeter_eq]
  split <;> split <;> simp [State.unindex]

/-- No change of state posts a message, but that of a quench by score. -/
theorem State.changeState_sameTraffic (hc : cause ≠ .scoreQuench) :
    s.sameTraffic (s.changeState t h new timer cause) := by
  unfold State.changeState
  dsimp only
  rw [State.noticeMeter_eq, State.noticeMonitor_eq, if_neg hc, State.noticedTrees_eq]
  split <;> split <;> exact ⟨rfl, rfl, rfl⟩

theorem State.alarmRelapseLimit_record (u : TreeId) (k : HomeIdx) :
    (s.alarmRelapseLimit t h).record u k = s.record u k := by
  unfold State.record State.home
  rw [State.alarmRelapseLimit_tree]

theorem State.alarm_record (a : Alarm) (u : TreeId) (k : HomeIdx) :
    (s.alarm a).record u k = s.record u k := State.post_record _ _ _ _ _ _

/-- The timer of a record that has changed its state is the one given. -/
theorem State.changeState_timer :
    ((s.changeState t h new timer cause).record t h).stateTimer = timer := by
  unfold State.record
  rw [State.changeState_home]; rfl

/-- A quench by score posts its alarms (R125). -/
theorem State.changeState_alarms :
    let r := s.changeState t h new timer .scoreQuench
    let a := s.alarm (r.rogueScoreAlarm t h)
    (if timer.isNone then a.alarm (r.relapseLimitAlarm t h) else a).sameTraffic r := by
  intro r a
  obtain ⟨x, hx, hr, hd⟩ : ∃ x : State, s.sameTraffic x ∧
      r = (x.alarm (x.rogueScoreAlarm t h)).alarmRelapseLimit t h ∧ x.round = s.round := by
    refine ⟨State.noticedTrees (if new = .free then
      (s.modHome t h (fun x => x.enter new timer)).unindex t h
      else s.modHome t h (fun x => x.enter new timer)) t h new .scoreQuench, ?_, ?_, ?_⟩
    · rw [State.noticedTrees_eq]; split <;> exact ⟨rfl, rfl, rfl⟩
    · show (State.noticeMeter _ _ _ _) = _
      rw [State.noticeMeter_eq, if_neg (by simp), State.noticeMonitor_eq, if_pos rfl]
    · rw [State.noticedTrees_eq]; split <;> rfl
  have hrec : r.record t h = x.record t h := by
    rw [hr, State.alarmRelapseLimit_record, State.alarm_record]
  have hround : r.round = x.round := by
    rw [hr]; unfold State.alarmRelapseLimit State.alarm; split <;> simp
  have h1 : r.rogueScoreAlarm t h = x.rogueScoreAlarm t h := by
    simp [State.rogueScoreAlarm, hrec, hround]
  have h2 : r.relapseLimitAlarm t h =
      (x.alarm (x.rogueScoreAlarm t h)).relapseLimitAlarm t h := by
    simp [State.relapseLimitAlarm, hrec, hround, State.alarm]
  have ht : ((x.alarm (x.rogueScoreAlarm t h)).record t h).stateTimer = timer := by
    rw [State.alarm_record, ← hrec]; exact s.changeState_timer t h new timer _
  have hax : a.sameTraffic (x.alarm (x.rogueScoreAlarm t h)) := by
    show (s.alarm _).sameTraffic _
    rw [h1]; exact State.sameTraffic_post hx _ _ _
  rw [h2]
  conv => arg 2; rw [hr]
  unfold State.alarmRelapseLimit
  rw [ht]
  split
  · exact State.sameTraffic_post hax _ _ _
  · exact hax

/-! ### The hand-off (R41, R154) -/

theorem State.handOff_tree (reason : DepartedReason) : (s.handOff t h reason).tree t =
    (s.tree t).modHome h (fun x => { x with usage := none }) := by
  unfold State.handOff
  dsimp only
  split
  · next hu => exact (Tree.modHome_same _ _ (by
      show { s.home t h with usage := none } = s.home t h
      rw [← hu])).symm
  · simp

theorem State.handOffTiered_tree (reason : DepartedReason) : (s.handOffTiered t h reason).tree t =
    (s.tree t).modHome h (fun x => { x with usage := s.usageAfterHandOff t h }) := by
  unfold State.handOffTiered State.usageAfterHandOff
  split
  · exact s.handOff_tree t h reason
  · exact (Tree.modHome_same _ _ rfl).symm

theorem State.handOffTiered_home (reason : DepartedReason) : (s.handOffTiered t h reason).home t h =
    { s.home t h with usage := s.usageAfterHandOff t h } := by
  unfold State.home
  rw [State.handOffTiered_tree, Tree.home_modHome_self]

theorem State.handOffTiered_meter (reason : DepartedReason) :
    (s.handOffTiered t h reason).meter = s.meterAfterHandOff t h reason := by
  unfold State.handOffTiered State.meterAfterHandOff
  split
  · unfold State.handOff
    dsimp only
    split
    · next hu => simp [hu]
    · next x hu => simp [hu, State.departedOf, State.record]
  · rfl

theorem State.handOffTiered_eq (reason : DepartedReason) : s.handOffTiered t h reason =
    { s with trees := (s.handOffTiered t h reason).trees
             meter := (s.handOffTiered t h reason).meter } := by
  unfold State.handOffTiered State.handOff
  dsimp only
  repeat' split
  all_goals rfl

theorem State.handOffTiered_sameTraffic (reason : DepartedReason) :
    s.sameTraffic (s.handOffTiered t h reason) := by
  rw [State.handOffTiered_eq]; exact ⟨rfl, rfl, rfl⟩

@[simp] theorem State.handOffTiered_serialIndex (reason : DepartedReason) :
    (s.handOffTiered t h reason).serialIndex = s.serialIndex := by
  rw [State.handOffTiered_eq]

@[simp] theorem State.handOffTiered_cfg (reason : DepartedReason) :
    (s.handOffTiered t h reason).cfg = s.cfg := by
  rw [State.handOffTiered_eq, State.cfg, State.cfg]

end change

end Sys2Proof.Machine
end

