-- ==== Sys2Proof/Laws/Entered.lean ====
section
/-! SUPPORT. What the two whole changes of a record come to, `State.entered` and `State.freed`: each
operation of the model that makes one, and that posting a message or taking an item from flight keeps
it. -/

namespace Sys2Proof.Machine

variable {s u : State} {t : TreeId} {h : HomeIdx} {cause : Cause}

/-- The record that a change of state leaves. -/
def State.entry (s : State) (t : TreeId) (h : HomeIdx) (new : RecordState) (timer : Option Nat)
    (cause : Cause) : HomeRecord :=
  ((s.record t h).enter new timer).noticed s.cfg.relapseLimit (s.tree t).light new cause

theorem State.entered_changeState (s : State) (t : TreeId) (h : HomeIdx) (new : RecordState)
    (timer : Option Nat) (cause : Cause) (w : ControlWord) (hn : new ≠ .free) (hc : cause ≠ .admission) :
    s.entered ((s.changeState t h new timer cause).queueWord t w) t h (s.entry t h new timer cause)
      cause w := by
  refine ⟨?_, ?_, ?_, ?_, ?_, ?_⟩
  · simp [State.changeState_home, Home.changed, hc, State.entry, State.record]
  · simp
  · simp
  · simp [State.changeState_light, State.entry, HomeRecord.noticed, HomeRecord.enter]
  · simp [State.changeState_serialIndex, hn]
  · exact (s.changeState_onlyHome t h _ _ _).trans (State.queueWord_onlyHome _ t h _)

theorem State.freed_departWithDismiss (s : State) (t : TreeId) (h : HomeIdx) (reason : DepartedReason)
    (cause : Cause) (hc : cause ≠ .admission) (hu : ∀ p, cause ≠ .undo p) :
    s.freed (s.departWithDismiss t h reason cause) t h reason cause := by
  refine ⟨?_, ?_, ?_, ?_, ?_, ?_⟩
  · simp [State.departWithDismiss, State.freeWithDismiss, State.changeState_home,
      State.handOffTiered_home, Home.changed, hc, State.record, HomeRecord.noticed, HomeRecord.enter,
      HomeRecord.emptied, HomeRecord.reset, keepIf, isTiered, State.handOffTiered_tree]
    cases cause <;> simp [relapsesAfter]
  · simp [State.departWithDismiss, State.freeWithDismiss, State.handOffTiered_meter]
  · simp [State.departWithDismiss, State.freeWithDismiss, State.handOffTiered_tree]
  · simp [State.departWithDismiss, State.freeWithDismiss, State.changeState_light,
      State.handOffTiered_tree, State.record, State.handOffTiered_home]
  · simp [State.departWithDismiss, State.freeWithDismiss, State.changeState_serialIndex, State.unindex]
  · exact s.departWithDismiss_onlyHome t h _ _

/-- A record outside the tiered states owes no hand-off. -/
theorem State.departWithDismiss_untiered (reason : DepartedReason) (cause : Cause)
    (hs : isTiered (s.record t h).state = false) :
    s.departWithDismiss t h reason cause = s.freeWithDismiss t h cause := by
  simp [State.departWithDismiss, State.handOffTiered, hs]

theorem State.departWithDismiss_sameTraffic (s : State) (t : TreeId) (h : HomeIdx)
    (reason : DepartedReason) (cause : Cause) (hc : cause ≠ .scoreQuench) :
    s.sameTraffic (s.departWithDismiss t h reason cause) := by
  unfold State.departWithDismiss State.freeWithDismiss
  have := (s.handOffTiered_sameTraffic t h reason).trans
    (State.changeState_sameTraffic _ t h .free none cause hc)
  exact ⟨this.1, this.2.1, this.2.2⟩

theorem State.freed.post {reason : DepartedReason} (hf : s.freed u t h reason cause) (p : Block)
    (d : Nat) (m : Msg) : s.freed (u.post p d m) t h reason cause := by
  obtain ⟨h1, h2, h3, h4, h5, h6⟩ := hf
  exact ⟨by simpa using h1, by simpa using h2, by simpa using h3, by simpa using h4, by simpa using h5,
    h6.trans (State.post_onlyHome _ _ _ _ t h)⟩

theorem State.entered.post {r : HomeRecord} {w : ControlWord} (hf : s.entered u t h r cause w)
    (p : Block) (d : Nat) (m : Msg) : s.entered (u.post p d m) t h r cause w := by
  obtain ⟨h1, h2, h3, h4, h5, h6⟩ := hf
  exact ⟨by simpa using h1, by simpa using h2, by simpa using h3, by simpa using h4, by simpa using h5,
    h6.trans (State.post_onlyHome _ _ _ _ t h)⟩

theorem State.freed.untake {reason : DepartedReason} {c : Instr}
    (hf : (s.take c).freed u t h reason cause) : s.freed u t h reason cause := hf

theorem State.entered.untake {r : HomeRecord} {w : ControlWord} {c : Instr}
    (hf : (s.take c).entered u t h r cause w) : s.entered u t h r cause w := hf

end Sys2Proof.Machine
end

