-- ==== Sys2Proof/Tests/Slice0.lean ====
section
/-! SUPPORT. Tests: the smoke of the operand checks, worked examples of the manual, and for each
statement to be proved a concrete state and operands that meet its hypotheses. -/

namespace Sys2Proof.Tests
open Sys2Proof Sys2Proof.Machine

-- The kernel evaluates the tests one after another: together they want too many threads at once.
set_option Elab.async false

/-! ### States that the tests start from -/

/-- Settings within their ranges: trees 0 and 1 enabled, CR 50 k and PR 100 k for tier k. -/
def demoSettings : Settings where
  enabled := 3
  capacity := 40000
  admitCap := 900
  tiers := tabulate (fun k => ⟨50 * k.val, 100 * k.val⟩)
  unitExp := 6
  callEvery := 16
  pollEvery := 8
  silentLimit := 4
  levelMin := -300
  levelMax := -100
  litLevel := -250
  darkLitMin := 1
  darkRounds := 2
  verifyRounds := 4
  scoreLimit := 8
  relapseLimit := 2
  claimWait := 25
  admitWait := 50
  lostHold := 20
  quenchHold := 5
  barHold := 10
  foreignRetry := 3
  pickupWait := 25
  confirmWait := 125
  secondManager := 31
  aliasOn := true

/-- A home of generation 1 in a state, with its timer run out where the state has one. -/
def demoHome (state : RecordState) (serial : Serial) : Home :=
  let tiered := fun {α : Type} (x : α) => keepIf (isTiered state) (some x)
  let active := fun {α : Type} (x : α) => keepIf (decide (state = .active)) (some x)
  { record :=
      { state := state, serial := some serial, generation := 1
        tier := tiered 2, quota := tiered 0, rtt := some 800, eqd := some 12000
        enrolLevel := some (-200), lastLevel := some (-200), silence := active 2
        stateTimer := if state = .active then none else some 0
        contested := some 0, backlog := active 500, pollCountdown := active 3
        throttled := tiered false, rogueScore := active 6, relapses := tiered 0, testDark := none }
    reportSlot := none
    trimHold := if state = .active then some 0 else none
    usage := tiered newUsage }

/-- The plan of tree 0's open window: a grant of 100 payload blocks to home 0, one of 10 to home 7,
which is FREE, and the CALL entry. -/
def demoPlan : Plan where
  round := 7
  grants := [⟨0, 0, 100, 1⟩, ⟨7, 102, 10, 1⟩]
  call := true

def demoWindow : Window where
  plan := demoPlan
  headers := []
  settled := 0
  lit := 0
  testSpans := []
  replyStep := 0
  replyBlind := false

/-- A running chip at address 0 with manager 3: on tree 0 one home in every state, its window open; on
tree 1 a LOST home, a BARRED and an ACTIVE one. -/
def demo : State :=
  let s : State :=
    { State.reset with
      round := 7
      bus := { State.reset.bus with
        chipState := .running, settings := some demoSettings, managers := [3]
        helloCountdown := none, lineSeen := true, queue := [] }
      serialIndex := [⟨10, 0, 0⟩, ⟨11, 0, 1⟩, ⟨12, 0, 2⟩, ⟨13, 0, 3⟩, ⟨14, 0, 4⟩, ⟨15, 0, 5⟩,
        ⟨20, 1, 0⟩, ⟨21, 1, 1⟩, ⟨22, 1, 2⟩] }
  let s := s.modTree 0 (fun tr => { tr with
    light := .clear 0, rx := { tr.rx with window := some demoWindow } })
  let s := s.modTree 1 (fun tr => { tr with light := .clear 0 })
  let s := (s.modHome 0 0 (fun _ => demoHome .active 10)).modHome 0 1 (fun _ => demoHome .quenched 11)
  let s := (s.modHome 0 2 (fun _ => demoHome .awaiting 12)).modHome 0 3 (fun _ => demoHome .claiming 13)
  let s := (s.modHome 0 4 (fun _ => demoHome .barred 14)).modHome 0 5 (fun _ => demoHome .lost 15)
  ((s.modHome 1 0 (fun _ => demoHome .lost 20)).modHome 1 1 (fun _ => demoHome .barred 21)).modHome 1 2
    (fun _ => demoHome .active 22)

/-- The demo state under another ADMIT_CAP. -/
def demoCap (n : Nat) : State :=
  demo.modBus (fun b => { b with settings := some { demoSettings with admitCap := n } })

/-- The demo state with a table that is full on tree 0. -/
def demoFull : State :=
  demo.modTree 0 (fun tr => { tr with homes := Vector.replicate 128 (demoHome .claiming 13) })

/-! ### Management requests on records -/

theorem witness_RefuseBarsAndDismissFrees :
    demo.inReset = none ∧ demo.obeys 3 = true ∧ demo.lookup 10 = some (0, 0) := by decide +kernel

theorem witness_ReleaseEndsTheDark :
    demo.inReset = none ∧ demo.obeys 3 = true
    ∧ demo.lookup 11 = some (0, 1) ∧ (demo.record 0 1).state = .quenched
    ∧ demo.lookup 14 = some (0, 4) ∧ (demo.record 0 4).state = .barred
    ∧ demo.lookup 10 = some (0, 0) ∧ (demo.record 0 0).state = .active := by decide +kernel

/-- One block of CR over ADMIT_CAP: 300 + 350 against 649, and 300 - 100 + 350 against 549. -/
theorem witness_RequestsAreDeclinedWithTheirReason :
    demo.inReset = none ∧ demo.obeys 3 = true ∧ demo.lookup 99 = none
    ∧ (demoCap 649).inReset = none ∧ (demoCap 649).obeys 3 = true
    ∧ (demoCap 649).lookup 12 = some (0, 2) ∧ ((demoCap 649).record 0 2).state = .awaiting
    ∧ (demoCap 649).cfg.admitCap < (demoCap 649).crSum 0 + ((demoCap 649).rates 7).cr
    ∧ (demoCap 549).inReset = none ∧ (demoCap 549).obeys 3 = true
    ∧ (demoCap 549).lookup 15 = some (0, 5) ∧ isTiered ((demoCap 549).record 0 5).state = true
    ∧ (demoCap 549).cfg.admitCap < (demoCap 549).crSum 0
        - ((demoCap 549).ratesOf ((demoCap 549).record 0 5)).cr + ((demoCap 549).rates 7).cr
    ∧ demo.lookup 13 = some (0, 3) ∧ (demo.record 0 3).state = .claiming
    ∧ demo.lookup 14 = some (0, 4) ∧ (demo.record 0 4).state = .barred := by decide +kernel

/-- Both at ADMIT_CAP to the block: 300 + 350 = 650, and 300 - 100 + 350 = 550. -/
theorem witness_AdmitSetsTierAndQuota :
    (demoCap 650).inReset = none ∧ (demoCap 650).obeys 3 = true
    ∧ (demoCap 650).lookup 12 = some (0, 2) ∧ ((demoCap 650).record 0 2).state = .awaiting
    ∧ (demoCap 650).crSum 0 + ((demoCap 650).rates 7).cr ≤ (demoCap 650).cfg.admitCap
    ∧ (demoCap 550).inReset = none ∧ (demoCap 550).obeys 3 = true
    ∧ (demoCap 550).lookup 10 = some (0, 0) ∧ isTiered ((demoCap 550).record 0 0).state = true
    ∧ (demoCap 550).crSum 0 - ((demoCap 550).ratesOf ((demoCap 550).record 0 0)).cr
        + ((demoCap 550).rates 7).cr ≤ (demoCap 550).cfg.admitCap := by decide +kernel

theorem witness_HoldsRunOut :
    demo.inReset = none
    ∧ (demo.record 0 5).state = .lost ∧ (demo.record 0 5).stateTimer = some 0
    ∧ (demo.record 0 2).state = .awaiting ∧ (demo.record 0 2).stateTimer = some 0
    ∧ (demo.record 0 4).state = .barred ∧ (demo.record 0 4).stateTimer = some 0
    ∧ (demo.record 0 1).state = .quenched ∧ (demo.record 0 1).stateTimer = some 0
    ∧ (demo.home 0 0).trimHold = some 0 := by decide +kernel

/-! ### Claims and objections -/

theorem witness_ClaimingRecordFollowsItsClaim :
    demo.inReset = none ∧ (demo.record 0 3).state = .claiming ∧ (demo.record 0 3).generation = 1
    ∧ (demo.record 0 3).stateTimer = some 0 ∧ (demo.record 0 0).state ≠ .claiming := by decide +kernel

theorem witness_PeerClaimIsAnswered :
    demo.inReset = none ∧ demo.hearsPeer 5 = true ∧ demo.lookup 99 = none
    ∧ demo.lookup 10 = some (0, 0) ∧ (demo.record 0 0).state = .active
    ∧ demo.lookup 13 = some (0, 3) ∧ (demo.record 0 3).state = .claiming
    ∧ demo.lookup 15 = some (0, 5) ∧ (demo.record 0 5).state = .lost
    ∧ demo.lookup 14 = some (0, 4) ∧ (demo.record 0 4).state = .barred := by decide +kernel

theorem witness_ObjectionIsTaken :
    demo.inReset = none ∧ demo.hearsPeer 5 = true ∧ demo.lookup 99 = none
    ∧ demo.lookup 13 = some (0, 3) ∧ (demo.record 0 3).state = .claiming
    ∧ demo.lookup 12 = some (0, 2) ∧ (demo.record 0 2).state = .awaiting
    ∧ demo.lookup 11 = some (0, 1) ∧ (demo.record 0 1).state = .quenched := by decide +kernel

/-! ### Discovery replies -/

/-- A reply of `serial` with its check bytes, after `gap` dark steps. -/
def demoReply (gap : Nat) (serial : Serial) (delay : Nat) (level : Int) : ReplyLight :=
  let b := bytesOf 8 serial.toNat ++ bytesOf 1 delay
  { levels := List.replicate gap (-399) ++ List.replicate 32 (-200) ++ [-399], replyLevel := level
    bytes := b ++ bytesOf 2 (checkOfBytes b) }

/-- What the delineator reads from the demo window, standing at step `start`. -/
def demoRead (start : Nat) (light : ReplyLight) : Option ReplyRecord :=
  (readOn (-250) 0 { demoWindow with replyStep := start } light).2

/-- The round trip one step below and above its range, and the level one step outside it. -/
theorem witness_BadRepliesAreCountedAndIgnored :
    demo.inReset = none ∧ (demo.tree 0).rx.window = some demoWindow ∧ demoWindow.plan.call = true
    ∧ demo.cfg.litLevel = -250
    ∧ demoRead 0 ⟨[-399, -251], -200, []⟩ = none
    ∧ demoRead 0 ⟨[-250], -200, []⟩ = some (.garbled 7 0)
    ∧ demoRead 0 (demoReply 15 30 2 (-200)) = some (.valid 7 0 30 2 15 (-200))
    ∧ demoRead 12800 (demoReply 17 30 2 (-200)) = some (.valid 7 0 30 2 12817 (-200))
    ∧ demoRead 0 (demoReply 16 30 2 (-301)) = some (.valid 7 0 30 2 16 (-301))
    ∧ demoRead 0 (demoReply 16 30 2 (-99)) = some (.valid 7 0 30 2 16 (-99)) := by decide +kernel

/-- The round trip at 0 and at 12800, the level at both bounds. -/
theorem witness_NewHomeIsEnrolled :
    demo.inReset = none ∧ (demo.tree 0).rx.window = some demoWindow ∧ demoWindow.plan.call = true
    ∧ demoRead 0 (demoReply 16 30 2 (-300)) = some (.valid 7 0 30 2 16 (-300))
    ∧ demoRead 12800 (demoReply 16 30 2 (-100)) = some (.valid 7 0 30 2 12816 (-100))
    ∧ demo.cfg.levelMin = -300 ∧ demo.cfg.levelMax = -100
    ∧ demo.lookup 30 = none ∧ (demo.record 0 6).state = .free
    ∧ (∀ k < 6, (demo.record 0 k).state ≠ .free)
    ∧ demoFull.lookup 30 = none ∧ (demoFull.tree 0).rx.window = some demoWindow
    ∧ ∀ k, (demoFull.record 0 k).state ≠ .free := by decide +kernel

theorem witness_ReplyOfAHeldSerialOnItsTree :
    demo.inReset = none ∧ (demo.tree 0).rx.window = some demoWindow ∧ demoWindow.plan.call = true
    ∧ demoRead 0 (demoReply 16 15 2 (-200)) = some (.valid 7 0 15 2 16 (-200))
    ∧ demoRead 0 (demoReply 16 13 2 (-200)) = some (.valid 7 0 13 2 16 (-200))
    ∧ demoRead 0 (demoReply 16 11 2 (-200)) = some (.valid 7 0 11 2 16 (-200))
    ∧ demoRead 0 (demoReply 16 14 2 (-200)) = some (.valid 7 0 14 2 16 (-200))
    ∧ demo.lookup 15 = some (0, 5) ∧ (demo.record 0 5).state = .lost
    ∧ demo.lookup 13 = some (0, 3) ∧ (demo.record 0 3).state = .claiming
    ∧ demo.lookup 11 = some (0, 1) ∧ (demo.record 0 1).state = .quenched
    ∧ demo.lookup 14 = some (0, 4) ∧ (demo.record 0 4).state = .barred := by decide +kernel

theorem witness_ReplyOfASerialHeldOnAnotherTree :
    demo.inReset = none ∧ (demo.tree 0).rx.window = some demoWindow ∧ demoWindow.plan.call = true
    ∧ demoRead 0 (demoReply 16 20 2 (-200)) = some (.valid 7 0 20 2 16 (-200))
    ∧ demoRead 0 (demoReply 16 21 2 (-200)) = some (.valid 7 0 21 2 16 (-200))
    ∧ demoRead 0 (demoReply 16 22 2 (-200)) = some (.valid 7 0 22 2 16 (-200))
    ∧ demo.lookup 20 = some (1, 0) ∧ (demo.record 1 0).state = .lost
    ∧ (demo.record 0 6).state = .free ∧ (∀ k < 6, (demo.record 0 k).state ≠ .free)
    ∧ demoFull.lookup 20 = some (1, 0) ∧ (demoFull.record 1 0).state = .lost
    ∧ (∀ k, (demoFull.record 0 k).state ≠ .free)
    ∧ demo.lookup 21 = some (1, 1) ∧ (demo.record 1 1).state = .barred
    ∧ demo.lookup 22 = some (1, 2) ∧ (demo.record 1 2).state = .active := by decide +kernel

/-! ### Quenches and their undoing -/

theorem witness_ScoreQuenchIsMade :
    demo.inReset = none ∧ (demo.record 0 0).state = .active ∧ (demo.record 0 0).generation = 1
    ∧ (demo.record 0 1).state ≠ .active := by decide +kernel

theorem witness_SearchQuenchGoesByState :
    demo.inReset = none ∧ (∀ h < 6, (demo.record 0 h).generation = 1)
    ∧ (demo.record 0 0).state = .active ∧ (demo.record 0 5).state = .lost
    ∧ (demo.record 0 3).state = .claiming ∧ (demo.record 0 1).state = .quenched
    ∧ (demo.record 0 4).state = .barred ∧ (demo.record 0 6).state = .free := by decide +kernel

theorem witness_UndoRestoresWhatTheSearchDid :
    demo.inReset = none ∧ (demo.record 0 1).generation = 1 ∧ (demo.record 0 1).state = .quenched
    ∧ (demo.record 0 4).generation = 1 ∧ (demo.record 0 4).state = .barred
    ∧ (some (SearchOutcome.moved .active (some 0))).bind stateLeftBy ≠ some (demo.record 0 4).state := by
  decide +kernel

/-! ### Watching the dark -/

def demoSearch (phase : StepPhase) (clearStreak : Nat) : Search :=
  { clearStreak := clearStreak, testHalf := [0], rest := [1, 2], phase := phase }

theorem witness_SearchBeginsWithEveryEnrolledHome :
    demo.candidates 0 ≠ [] ∧ demo.candidates 2 = [] := by decide +kernel

/-- A lit test round leaves two candidates, an unlit one leaves one. -/
theorem witness_TestRoundHalvesTheSearch :
    let d := demoSearch (.testing 7) 0
    let s := demo.setLight 0 (.search d)
    (s.tree 0).light = .search d ∧ d.phase = .testing 7 ∧ 2 ≤ d.rest.length ∧ d.testHalf = [0]
    ∧ ((s.setLight 0 (.search { d with testHalf := [] })).tree 0).light
      = .search { d with testHalf := [] } := by decide +kernel

/-- DARK_ROUNDS is 2. -/
theorem witness_StreaksAndTimersMoveTheLightState :
    demo.inReset = none ∧ demo.cfg.darkRounds = 2 ∧ demo.cfg.darkLitMin = 1
    ∧ (∀ l ∈ [Light.clear 0, .clear 1, .search (demoSearch .chosen 0), .search (demoSearch .chosen 1),
        .search (demoSearch (.void 7) 0), .foreign 0, .off], ((demo.setLight 0 l).tree 0).light = l)
    ∧ (demo.tree 0).rx.lastLit = none
    ∧ ∀ n ∈ [0, 1], ((demo.modTree 0 (fun tr =>
        { tr with rx := { tr.rx with lastLit := some n } })).tree 0).rx.lastLit = some n := by
  decide +kernel

/-- VERIFY_ROUNDS is 4; the rounds of a verification that starts at 65534 wrap. -/
theorem witness_VerificationCountsAndEnds :
    let v := fun lit => Verify.mk 0 1 none (some 65534) 3 lit false
    demo.cfg.verifyRounds = 4
    ∧ ((demo.setLight 0 (.verify (v 1))).tree 0).light = .verify (v 1)
    ∧ (65534 + 0) % 65536 = 65534 ∧ (65534 + 1) % 65536 = 65535 ∧ (65534 + 3) % 65536 = 1
    ∧ (65534 + 4) % 65536 = 2 ∧ (65534 + 5) % 65536 = 3
    ∧ 2 * ((v 1).lit + 0) < 4 ∧ 4 ≤ 2 * ((v 1).lit + 1) := by decide +kernel

/-! ### The shelf bus -/

def demoEntry (m : Msg) (clashes : Nat) (onLine : Bool) : TxEntry :=
  { dest := 31, msg := m, producer := .bus, handle := none, clashes := clashes, onLine := onLine }

def urgentMsg : Msg := .alarm (plainAlarm .addressClash 0 7 none)
def normalMsg : Msg := .hello 0 .power .running 7
def bulkMsg : Msg := .demand 1 2 3

def demoQueue (q : List TxEntry) : State := demo.modBus (fun b => { b with queue := q })

/-- The youngest entry heads the queue by its class; then it is on the line. -/
theorem witness_EntriesGoOnAndOffTheLine :
    let older := [demoEntry bulkMsg 0 false, demoEntry normalMsg 0 false]
    let e := demoEntry urgentMsg 0 false
    let younger := [demoEntry normalMsg 0 false]
    demo.inReset = none
    ∧ (demoQueue (older ++ e :: younger)).bus.queue = older ++ e :: younger
    ∧ (∀ x ∈ older ++ e :: younger, x.onLine = false)
    ∧ (∀ x ∈ older, e.cls.code < x.cls.code) ∧ (∀ x ∈ younger, e.cls.code ≤ x.cls.code)
    ∧ (demoEntry urgentMsg 0 true).onLine = true ∧ demo.bus.queue = [] := by decide +kernel

/-- An entry on the line with 14 clashes, and with 15, before an ALARM ADDRESS_CLASH that waits. -/
theorem witness_ClashTakesTheEntryOffTheLine :
    let e := fun n => demoEntry normalMsg n true
    let q := fun n => [] ++ e n :: [demoEntry urgentMsg 0 false]
    demo.inReset = none ∧ (demoQueue (q 14)).bus.queue = [] ++ e 14 :: [demoEntry urgentMsg 0 false]
    ∧ (e 14).onLine = true ∧ (e 14).clashes + 1 < 16 ∧ 16 ≤ (e 15).clashes + 1
    ∧ (demoEntry urgentMsg 0 false).onLine = false
    ∧ (plainAlarm .addressClash 0 7 none).kind = .addressClash := by decide +kernel

def demoFrame (sender dest kind : Nat) (body : List Byte) : List Bool :=
  frameBits 1 sender dest kind body

theorem witness_BadAndClashingFramesGoNowhere :
    demo.inReset = none ∧ demo.bus.lineSeen = true ∧ State.reset.bus.lineSeen = false
    ∧ readFrame ((demoFrame 0 5 0x16 [1]).dropLast) = none
    ∧ readFrame (demoFrame 0 5 0x16 [1]) = some ⟨1, 0, 5, 0x16, [1]⟩
    ∧ demo.bus.clashFrame = false ∧ demo.bus.address = 0 := by decide +kernel

/-- A frame to another station; a CONFIRM from the manager, from another station, and with no body; a
QUERY with subject 2 and with subject 3. -/
theorem witness_FramesAreFilteredAndHandedOn :
    demo.inReset = none ∧ demo.bus.lineSeen = true ∧ demo.bus.clashFrame = false
    ∧ demo.bus.address = 0 ∧ demo.bus.managers = [3] ∧ demo.bus.chipState = .running
    ∧ State.reset.bus.chipState = .waitingSettings
    ∧ readFrame (demoFrame 3 9 0x16 [1]) = some ⟨1, 3, 9, 0x16, [1]⟩
    ∧ readFrame (demoFrame 3 0 0x16 [1]) = some ⟨1, 3, 0, 0x16, [1]⟩
    ∧ readFrame (demoFrame 4 0 0x16 [1]) = some ⟨1, 4, 0, 0x16, [1]⟩
    ∧ readFrame (demoFrame 3 0 0x16 []) = some ⟨1, 3, 0, 0x16, []⟩
    ∧ requiredLength 0x16 = some 1
    ∧ (ShelfFrame.mk 1 3 0 0x16 [1]).command = some (.confirm 3 1)
    ∧ (∀ k ∈ [0x01, 0x05, 0x0F, 0x19], k ∉ [0x02, 0x03, 0x04, 0x10, 0x11, 0x12, 0x13, 0x14, 0x15, 0x16,
        0x17, 0x18]) := by decide +kernel

theorem witness_queryFrames :
    readFrame (demoFrame 3 0 0x18 [2, 0, 0, 0, 0, 0, 0, 0, 0, 0, 0, 9])
      = some ⟨1, 3, 0, 0x18, [2, 0, 0, 0, 0, 0, 0, 0, 0, 0, 0, 9]⟩
    ∧ readFrame (demoFrame 3 0 0x18 [3, 0, 0, 0, 0, 0, 0, 0, 0, 0, 0, 9])
      = some ⟨1, 3, 0, 0x18, [3, 0, 0, 0, 0, 0, 0, 0, 0, 0, 0, 9]⟩ := by decide +kernel

/-- A full queue of one URGENT entry, two NORMAL and thirteen BULK ones, and one without BULK entries. -/
theorem witness_FullQueueGivesWayByClass :
    let two := [demoEntry urgentMsg 0 false, demoEntry normalMsg 0 false, demoEntry normalMsg 0 true]
    let bulk := List.replicate 13 (demoEntry (.quota (demo.quotaNotice 0 0)) 0 false)
    let full := two ++ bulk
    let e := demoEntry urgentMsg 0 false
    16 ≤ (demoQueue full).bus.queue.length
    ∧ (∀ x ∈ full, x.replacedBy e.msg = false)
    ∧ full = (two ++ bulk.dropLast) ++ demoEntry (.quota (demo.quotaNotice 0 0)) 0 false :: []
    ∧ (∀ x ∈ List.replicate 16 e, x.replacedBy normalMsg = false ∧ ¬ (x.cls = .bulk ∧ x.onLine = false))
    ∧ e.cls ≠ .bulk := by decide +kernel

theorem witness_NewcomerJoinsOrReplaces :
    (demoQueue (List.replicate 15 (demoEntry urgentMsg 0 false))).bus.queue.length < 16
    ∧ (demoQueue [demoEntry bulkMsg 0 false, demoEntry normalMsg 0 false]).bus.queue
      = [demoEntry bulkMsg 0 false] ++ demoEntry normalMsg 0 false :: []
    ∧ normalMsg = .hello 0 .power .running 7 ∧ (demoEntry normalMsg 0 false).onLine = false := by
  decide +kernel

/-- Trees 3 and 4, indices 127 and 128, forms 0, 1 and 2; tree 2 is disabled. -/
theorem witness_QueriesAreAnsweredFromTheState :
    demo.inReset = none ∧ demo.answersQuery (.queryChip 3 ⟨0, 0, 0, 0⟩) 3 = true ∧ demo.enabled 0 = true ∧ demo.enabled 2 = false
    ∧ 3 < (QueryBody.mk 0 4 127 10).tree ∧ (3 : TreeId).val = (QueryBody.mk 0 3 128 10).tree
    ∧ 127 < (QueryBody.mk 0 3 128 10).index ∧ (127 : HomeIdx).val = (QueryBody.mk 0 0 127 10).index
    ∧ demo.lookup 10 = some (0, 0) ∧ demo.lookup 99 = none ∧ 1 < (QueryBody.mk 2 0 0 10).form := by
  decide +kernel

/-! ### Layouts -/

theorem witness_FramesAndLightReadBackAsSent :
    3 < 4 ∧ 31 < 32 ∧ 255 < 256 ∧ (List.replicate 240 (0xFF : Byte)).length ≤ 240
    ∧ 65535 < 65536 ∧ 16777215 < 16777216 := by decide +kernel

theorem witness_SettingsReadBackAndMessagesAreLaidOut : demoSettings.wf = true := by decide +kernel

/-! ### Reset, start-up and the clock -/

theorem witness_ResetsBeginAndEnd :
    demo.inReset = none ∧ (demo.beginReset .power).inReset = some .power
    ∧ (demo.beginReset .pin).inReset = some .pin ∧ (31 : Fin 32).val = 31 := by decide +kernel

/-- Senders 30 and 31, and the chip's own address 0. -/
theorem witness_SettingsStartTheChipOnce :
    State.reset.inReset = none ∧ State.reset.bus.chipState = .waitingSettings
    ∧ 30 ≤ 30 ∧ 30 ≠ State.reset.bus.address ∧ demo.inReset = none ∧ demo.bus.chipState = .running
    ∧ 30 < 31 ∧ 0 = demo.bus.address ∧ State.reset.bus.helloCountdown ≠ some 0
    ∧ (State.reset.modBus (fun b => { b with helloCountdown := some 0 })).bus.helloCountdown = some 0 := by
  decide +kernel

/-- Below, above and at the bounds of the range of the district capacity, 1000 to 255000. -/
theorem witness_SettingsAreClampedToTheirRanges :
    settingsInRange demoSettings
    ∧ ({ demoSettings with capacity := 999 } : Settings).capacity < 1000
    ∧ 255000 < ({ demoSettings with capacity := 255001 } : Settings).capacity := by
  unfold settingsInRange
  decide +kernel

theorem witness_RoundOpeningAdvancesEveryTimer : demo.inReset = none := by decide +kernel

/-- A READY readout of tree 0 on homes 0 and 1, with its snapshot. -/
def demoReady : Readout :=
  { requester := 3, range := .usage 0 0, count := 2, tag := 1, state := .ready, timer := some 0
    snapshot := [.taken 10 0 0 1 0 .zero, .empty 0 1 .free] }

/-- A DELIVERED readout of one departed record. -/
def demoDelivered : Readout :=
  { requester := 3, range := .departed, count := 1, tag := 2, state := .delivered, timer := some 0
    snapshot := [] }

def demoReadouts : List Readout := [demoReady, demoDelivered]

def demoMeter (readouts : List Readout) : State :=
  { demo with meter :=
    { readouts := readouts, nextTag := 5, missedPickups := 0, departedLoss := 0
      departed := [{ serial := 9, tree := 0, home := 9, generation := 1, reason := .dismissed
                     interval := 0, counters := .zero, mark := some 2 }] } }

theorem witness_RestartEmptiesTheTree :
    (demoMeter demoReadouts).inReset = none ∧ (demoMeter demoReadouts).obeys 3 = true
    ∧ (demoMeter demoReadouts).enabled 0 = true ∧ (demoMeter demoReadouts).snapshotsStand
    ∧ 3 < 4 ∧ (2 : TreeId).val = 2 ∧ (demoMeter demoReadouts).enabled 2 = false := by
  unfold State.snapshotsStand
  decide +kernel

/-! ### Upstream grant planning -/

/-- The demo state with a build due. -/
def demoBuild : State := { demo with buildDue := true, share := { demo.share with share := 3000 } }

theorem witness_PlanBuildServesEachEnabledTree :
    demoBuild.inReset = none ∧ demoBuild.buildDue = true ∧ demoBuild.running = true
    ∧ demoBuild.enabled 0 = true ∧ demoBuild.enabled 2 = false ∧ demo.buildDue = false
    ∧ (demoBuild.record 0 0).state = .active ∧ (demoBuild.record 0 1).state ≠ .active
    ∧ 0 < demoBuild.wholeOf (demoBuild.record 0 0) := by decide +kernel

theorem witness_PayloadsKeepToDemandRoomAndShare :
    ∃ u, demoBuild.inReset = none ∧ demoBuild.buildDue = true ∧ demoBuild.running = true
      ∧ settingsInRange demoBuild.cfg ∧ exec .planBuild demoBuild = .next u :=
  ⟨_, by decide +kernel, by decide +kernel, by decide +kernel,
    witness_SettingsAreClampedToTheirRanges.1, rfl⟩

theorem witness_BurstsStandEndToEnd :
    ∃ u, demoBuild.inReset = none ∧ demoBuild.buildDue = true ∧ demoBuild.enabled 0 = true
      ∧ exec .planBuild demoBuild = .next u
      ∧ (u.lastPlan 0).grants = [] ++ ⟨0, 0, 200, 1⟩ :: [] :=
  ⟨demoBuild.buildPlans, by decide +kernel, by decide +kernel, by decide +kernel, rfl, by decide +kernel⟩


/-- A tree whose committed demand passes its room by one block, two trees over a share, and a division
over its pool. -/
theorem witness_CommittedAndExcessAreDivided :
    (∃ u, demoBuild.inReset = none ∧ demoBuild.buildDue = true ∧ demoBuild.running = true
      ∧ exec .planBuild demoBuild = .next u)
    ∧ let b : TreeBuild := ⟨0, true, [⟨3, 1, 1959, 0⟩], false⟩
    4000 - 40 - 2000 - 2 * b.asks.length < (b.asks.map Ask.committed).sum
    ∧ 1958 < ([b].map (fun b => (b.asks.map Ask.committed).sum)).sum
    ∧ ([Want.mk 0 3, ⟨5, 4⟩].Pairwise (fun a b => a.key < b.key))
    ∧ 6 < ([Want.mk 0 3, ⟨5, 4⟩].map Want.want).sum
    ∧ ([Want.mk 0 3, ⟨5, 4⟩].map Want.want).sum ≤ 7 :=
  ⟨⟨_, by decide +kernel, by decide +kernel, by decide +kernel, rfl⟩, by decide +kernel⟩

/-! ### The tree side -/

/-- The demo state with a header due on tree 0, whose plan for round 8 is pending, and a verification
that waits for its DARKEN. -/
def demoHeader : State :=
  demo.modTree 0 (fun tr => { tr with
    headerDue := true, light := .verify ⟨1, 1, none, none, 0, 0, false⟩
    tx := { tr.tx with
      words := [.darken 1], pendingPlans := [{ demoPlan with round := 8 }] } })

theorem witness_RoundHeaderCarriesPlanAndWords :
    demoHeader.inReset = none ∧ (demoHeader.tree 0).headerDue = true ∧ demoHeader.enabled 0 = true
    ∧ (demoHeader.tree 0).tx.pendingPlans.find?
        (fun q => decide (q.round = (demoHeader.round + 1) % 65536)) = some { demoPlan with round := 8 }
    ∧ (demoHeader.tree 1).tx.pendingPlans.find?
        (fun q => decide (q.round = (demoHeader.round + 1) % 65536)) = none
    ∧ (14 : HomeIdx).val = 2 * (demoHeader.round % 64) ∧ (15 : HomeIdx).val = 2 * (demoHeader.round % 64) + 1
    ∧ .darken 1 ∈ wordsFor 8 (demoHeader.tree 0).tx.words
    ∧ (demo.tree 0).headerDue = false ∧ demoHeader.enabled 2 = false := by decide +kernel

/-- Queues of 159 and 160 words, the second with its youngest ORDINARY word before a PRIORITY one. -/
theorem witness_WordsAreQueuedAndSentByClass :
    (List.replicate 159 (ControlWord.dismiss 0)).length < 160
    ∧ 160 ≤ (List.replicate 158 (ControlWord.dismiss 0) ++ ControlWord.dismiss 1 :: [ControlWord.light 2]).length
    ∧ (ControlWord.dismiss 1).priority = false ∧ (ControlWord.light 2).priority = true
    ∧ ∀ x ∈ List.replicate 160 (ControlWord.light 2), x.priority = true := by decide +kernel

theorem witness_WindowClosesAndTheNextOpens :
    let s := demo.modTree 0 (fun tr => { tr with receiveDue := true })
    s.inReset = none ∧ (List.replicate 3960 (-399 : Int)).length = 3960
    ∧ (s.tree 0).receiveDue = true ∧ s.enabled 0 = true ∧ (s.tree 0).rx.window = some demoWindow
    ∧ (s.tree 1).rx.window = none ∧ (demo.tree 0).receiveDue = false := by decide +kernel

/-- The header block of a burst with its check bytes. -/
def demoBurst (index backlog used : Nat) : List Byte :=
  let b := bytesOf 1 index ++ bytesOf 2 backlog ++ bytesOf 3 used
  b ++ bytesOf 2 (checkOfBytes b)

/-- The light of the grant at blocks 0 to 101 of home 0, its header `offset` steps off its place. -/
def demoLight (offset : Int) (index : Nat) (after : Int) : BurstLight where
  headers := [⟨8 + offset, -200, demoBurst index 5 7⟩]
  headerBlockLevel := -200
  afterLevel := after
  payload := []

/-- Headers 64 and 65 steps off their place, one that names another home, and two at equal distance. -/
theorem witness_GrantOutcomeFollowsItsHeader :
    demoPlan.headerTaken ⟨0, 0, 100, 1⟩ (demoLight 65 0 (-399)).headers = none
    ∧ demoPlan.headerTaken ⟨0, 0, 100, 1⟩ (demoLight 64 0 (-399)).headers
      = some (⟨72, -200, demoBurst 0 5 7⟩, ⟨0, 5, 7⟩)
    ∧ demoPlan.headerTaken ⟨0, 0, 100, 1⟩ (demoLight 0 9 (-399)).headers
      = some (⟨8, -200, demoBurst 9 5 7⟩, ⟨9, 5, 7⟩)
    ∧ demoPlan.headerTaken ⟨0, 0, 100, 1⟩ [⟨9, -200, demoBurst 0 5 7⟩, ⟨7, -210, demoBurst 0 5 7⟩]
      = some (⟨7, -210, demoBurst 0 5 7⟩, ⟨0, 5, 7⟩)
    ∧ readBurstHeader (demoBurst 0 5 7) = some ⟨0, 5, 7⟩ ∧ demoPlan.grants = [] ++ ⟨0, 0, 100, 1⟩ :: demoPlan.grants.drop 1
    ∧ demoPlan.call = true ∧ (Grant.mk 0 0 100 1).after < 1960
    ∧ 1960 ≤ (Grant.mk 0 1948 10 1).after := by decide +kernel

/-- The grant of home 0 arrives 5 steps off; the grant of home 7, which is FREE, is stale. -/
theorem witness_ArrivalIsTakenOrDiscarded :
    demo.inReset = none ∧ (demo.tree 0).rx.window = some demoWindow
    ∧ demoWindow.plan.grants[demoWindow.settled]? = some ⟨0, 0, 100, 1⟩
    ∧ (demo.record 0 0).state ≠ .free ∧ (demo.record 0 0).generation = 1
    ∧ settleGrant demo.cfg.litLevel demoPlan ⟨0, 0, 100, 1⟩ (demoLight 5 0 (-251)).headers
        (demoLight 5 0 (-251)) = (.good .drifted false 5 (-200) 5 7, some 821)
    ∧ demoPlan.grants[1]? = some ⟨7, 102, 10, 1⟩ ∧ (demo.record 0 7).state = .free
    ∧ demoPlan.grants.length ≤ 2 ∧ (demo.tree 1).rx.window = none := by decide +kernel

/-- SILENT_LIMIT is 4: a silence of 2 becomes 3, and one of 3 loses the home. -/
theorem witness_BadArrivalsCountSilenceAndScores :
    demo.inReset = none ∧ (demo.tree 0).rx.window = some demoWindow
    ∧ demoWindow.plan.grants[demoWindow.settled]? = some ⟨0, 0, 100, 1⟩
    ∧ (demo.record 0 0).state = .active ∧ (demo.record 0 0).generation = 1
    ∧ settleGrant demo.cfg.litLevel demoPlan ⟨0, 0, 100, 1⟩ [] ⟨[], -251, -399, []⟩ = (.silent, none)
    ∧ settleGrant demo.cfg.litLevel demoPlan ⟨0, 0, 100, 1⟩ [] ⟨[], -250, -399, []⟩
      = (.garbled (-250), none)
    ∧ settleGrant demo.cfg.litLevel demoPlan ⟨0, 0, 100, 1⟩ (demoLight 0 1 (-399)).headers
        (demoLight 0 1 (-399)) = (.wrongHome 1 (-200), none)
    ∧ settleGrant demo.cfg.litLevel demoPlan ⟨0, 0, 100, 1⟩ (demoLight 0 128 (-399)).headers
        (demoLight 0 128 (-399)) = (.wrongHome 128 (-200), none)
    ∧ (demo.record 0 1).state = .quenched ∧ (demo.record 0 1).generation = 1
    ∧ (demo.record 0 0).silence.getD 0 + 1 < demo.cfg.silentLimit
    ∧ demo.cfg.silentLimit ≤ 3 + 1 := by decide +kernel

/-- A reply that begins at step 16000, at 15999, and at the last step that leaves it whole. -/
theorem witness_ReplyIsReadAtTheFirstLight :
    demoWindow.replyBlind = false ∧ ({ demoWindow with replyBlind := true } : Window).replyBlind = true
    ∧ (readOn (-250) 0 { demoWindow with replyBlind := true } ⟨[-200, -200], -200, []⟩).1.replyStep = 2
    ∧ (-250 : Int) ≤ -200
    ∧ (demoReply 2 30 2 (-200)).levels = [-399, -399] ++ List.replicate 32 (-200) ++ [-399]
    ∧ (∀ x ∈ [(-399 : Int), -399], x < -250) ∧ (∀ x ∈ List.replicate 32 (-200 : Int), -250 ≤ x)
    ∧ 16000 ≤ 15998 + 2 ∧ 15997 + 2 < 16000 ∧ 16000 < 15997 + 2 + 32 ∧ 15966 + 2 + 32 ≤ 16000
    ∧ readReply [] = none ∧ readReply (demoReply 2 30 2 (-200)).bytes = some (30, 2) := by decide +kernel

/-- 63 and 64 frames taken; a frame that fills the room left, and one byte more. -/
theorem witness_DownstreamFramesAreTakenAndSent :
    demo.inReset = none ∧ (List.replicate 63 (TakenFrame.mk 0 [])).length < 64
    ∧ 64 ≤ (List.replicate 64 (TakenFrame.mk 0 [])).length
    ∧ demo.enabled 0 = true ∧ (demo.record 0 0).state = .active ∧ (demo.record 0 6).state = .free
    ∧ ([1, 2] : List Byte).length ≤ 16384
    ∧ 2 = (TakenFrame.mk 0 [1, 2]).bytes.length + 0 ∧ 1 < (TakenFrame.mk 0 [1, 2]).bytes.length := by
  decide +kernel

/-! ### District share -/

theorem witness_DemandsAndEpochEndsSetTheShare :
    demo.inReset = none ∧ demo.hearsPeer 30 = true ∧ demo.hearsPeer 0 = false
    ∧ (∀ p ∈ demo.share.peers, p.address ≠ 30)
    ∧ [Peer.mk 4 1 2 0, ⟨5, 1, 2, 3⟩] = [Peer.mk 4 1 2 0] ++ ⟨5, 1, 2, 3⟩ :: []
    ∧ (∀ q ∈ [Peer.mk 4 1 2 0] ++ [], q.address ≠ 5)
    ∧ ({ demo with epochDue := true } : State).epochDue = true ∧ demo.running = true
    ∧ demo.epochDue = false := by decide +kernel

theorem witness_SharesKeepToTheDistrict :
    0 < 40000 ∧ (([(4000, 6000), (6000, 9000), (5000, 1000)] : List (Nat × Nat)).map Prod.fst).sum < 40000 := by
  decide +kernel

/-! ### Usage metering and the billing readout -/

/-- UNIT_EXP is 6: 63 bytes stay in the residue, 64 are a unit. -/
theorem witness_BytesAreCountedInUnits :
    (demo.home 0 3).usage = none ∧ (demo.home 0 0).usage = some newUsage
    ∧ newUsage.residueUp + 63 < 2 ^ demo.cfg.unitExp ∧ 2 ^ demo.cfg.unitExp ≤ newUsage.residueUp + 64 := by
  decide +kernel

theorem witness_ReceiveEndCountsRoundsAndCuts :
    let e := Readout.mk 3 (.usage 0 122) 6 1 .preparing none []
    e.range = .usage 0 122 ∧ (122 : HomeIdx).val + e.count ≤ 128 := by decide +kernel

/-- A match with an equal count, one with a larger count, no match with three entries, and with four. -/
theorem witness_ReadIsAnsweredFromTheTable :
    (demoMeter demoReadouts).inReset = none ∧ (demoMeter demoReadouts).obeys 3 = true
    ∧ (demoMeter demoReadouts).cfg.aliasOn = true
    ∧ (demoMeter demoReadouts).meter.readouts = [] ++ demoReady :: [demoDelivered]
    ∧ demoReady.requester = 3 ∧ demoReady.range = .usage 0 0
    ∧ demoReady.count = 2 ∧ demoReady.state ≠ .preparing
    ∧ (∀ x ∈ demoReadouts, ¬ (x.requester = 3 ∧ x.range = .usage 0 0 ∧ x.count = 1))
    ∧ (∀ x ∈ demoReadouts, ¬ (x.requester = 3 ∧ x.range = .usage 0 127))
    ∧ (demoMeter (demoReadouts ++ demoReadouts.take 1)).meter.readouts.length < 4
    ∧ 4 ≤ (demoMeter (demoReadouts ++ demoReadouts)).meter.readouts.length
    ∧ demo.enabled 0 = true ∧ demo.enabled 2 = false
    ∧ 1 ≤ (demoMeter demoReadouts).meter.nextTag ∧ (demoMeter demoReadouts).meter.nextTag ≤ 255 := by
  decide +kernel

theorem witness_ReadoutsEndByConfirmOrExpiry :
    (demoMeter demoReadouts).inReset = none ∧ (demoMeter demoReadouts).obeys 3 = true
    ∧ (demoMeter demoReadouts).meter.readouts = [] ++ demoReady :: [demoDelivered]
    ∧ (∀ x ∈ [] ++ [demoDelivered], x.tag ≠ demoReady.tag)
    ∧ demoReady.state = .ready ∧ demoReady.timer = some 0
    ∧ demoDelivered.state = .delivered ∧ demoDelivered.requester = 3
    ∧ demoDelivered.timer = some 0 ∧ (∀ x ∈ demoReadouts, x.tag ≠ 9) := by decide +kernel

/-- A list of 31 departed records, and one of 32 whose oldest is marked. -/
theorem witness_SnapshotRecordsAreDeliveredOrReturned :
    let d := fun mark => DepartedRecord.mk 9 0 9 1 .dismissed 0 .zero mark
    (demo.record 0 0).generation = 1 ∧ isTiered (demo.record 0 0).state = true
    ∧ (demo.home 0 0).usage = some newUsage ∧ isTiered (demo.record 0 6).state = false
    ∧ (List.replicate 31 (d none)).length < 32
    ∧ 32 ≤ ([d (some 2)] ++ d none :: List.replicate 30 (d none)).length
    ∧ (d none).mark = none ∧ (∀ y ∈ [d (some 2)], y.mark ≠ none) := by decide +kernel

/-! ### Every command, and what every step keeps -/

theorem witness_EveryCommandCompletes :
    (demo.beginReset .pin).inReset ≠ none ∧ Instr.roundOpening ≠ .powerOnReset
    ∧ Instr.roundOpening ≠ .pinReset ∧ ∀ straps, Instr.roundOpening ≠ .resetEnd straps := by
  decide +kernel

/-- The demo state with a command waiting. -/
def demoStep : State := { demo with pending := [.refuse 3 10] }

theorem demoStep_answers : ∃ u, step demoStep = .next u := ⟨_, rfl⟩

theorem witness_EveryStepKeepsTheChip : ChipInv demoStep ∧ ∃ u, step demoStep = .next u :=
  ⟨{ round := by decide +kernel
     queuePlaces := by decide +kernel
     clashes := by decide +kernel
     oneOnLine := by decide +kernel
     address := by decide +kernel
     managers := by decide +kernel
     epoch := by decide +kernel
     peers := by decide +kernel
     share := by decide +kernel
     own := fun _ h => by cases h
     waiting := fun h => by cases h
     running := fun _ => ⟨⟨_, rfl, witness_SettingsAreClampedToTheirRanges.1⟩, by decide +kernel, rfl⟩ },
    demoStep_answers⟩

theorem witness_EveryStepKeepsThePlaces : PlacesInv demoStep ∧ ∃ u, step demoStep = .next u := by
  have windows : ∀ t, (demoStep.tree t).rx.window = none
      ∨ (demoStep.tree t).rx.window = some demoWindow := by decide +kernel
  refine ⟨⟨by decide +kernel, by decide +kernel, by decide +kernel, by decide +kernel, ?_⟩,
    demoStep_answers⟩
  intro t w h
  rcases windows t with h' | h' <;> rw [h'] at h <;> cases h
  decide +kernel

/-- Every home of the demo state. -/
def demoHomes : List Home :=
  [.reset, demoHome .active 10, demoHome .quenched 11, demoHome .awaiting 12, demoHome .claiming 13,
    demoHome .barred 14, demoHome .lost 15, demoHome .lost 20, demoHome .barred 21, demoHome .active 22]

theorem demoHomes_inv : ∀ x ∈ demoHomes, HomeInv x := by
  intro x hx
  simp only [demoHomes, List.mem_cons, List.not_mem_nil, or_false] at hx
  rcases hx with rfl | rfl | rfl | rfl | rfl | rfl | rfl | rfl | rfl | rfl <;>
    exact ⟨by decide, by decide, by decide, by decide, by decide,
      fun _ _ h h' => (by cases h <;> cases h' <;> rfl), by decide,
      fun _ h => (by cases h <;> decide), fun _ h => (by cases h <;> decide),
      fun _ h => (by cases h <;> decide),
      fun _ h => (by rcases h with h | h <;> cases h <;> decide),
      fun _ h => (by rcases h with h | h <;> cases h <;> decide)⟩

theorem demoStep_homes : ∀ t h, demoStep.home t h ∈ demoHomes := by decide +kernel

theorem demoStep_lights :
    ∀ t, (demoStep.tree t).light = .clear 0 ∨ (demoStep.tree t).light = .off := by decide +kernel

/-- The figures of an ACTIVE home of the demo state are below the settings that bound them. -/
theorem demoHomes_bounds : ∀ x ∈ demoHomes,
    (x.record.silence = none ∨ x.record.silence = some 2)
    ∧ (x.record.pollCountdown = none ∨ x.record.pollCountdown = some 3)
    ∧ (x.record.relapses = none ∨ x.record.relapses = some 0) := by decide +kernel

theorem demoStep_table : TableInv demoStep := by
  have entries : ∀ e ∈ demoStep.serialIndex, (demoStep.record e.tree e.home).state ≠ .free
      ∧ (demoStep.record e.tree e.home).serial = some e.serial := by decide +kernel
  have held : ∀ t h, (demoStep.record t h).state ≠ .free → ∃ e ∈ demoStep.serialIndex,
      e.tree = t ∧ e.home = h ∧ (demoStep.record t h).serial = some e.serial := by decide +kernel
  have bounds := fun t h => demoHomes_bounds _ (demoStep_homes t h)
  refine ⟨by decide +kernel, fun t h => demoHomes_inv _ (demoStep_homes t h), by decide +kernel,
    fun serial t h => ⟨fun m => entries _ m, ?_⟩, by decide +kernel, fun t h n e => ?_,
    fun t h n e => ?_, fun t h n e => ?_, fun t v o e => ?_, fun t h g o r m => ?_, by decide +kernel,
    by decide +kernel⟩
  · rintro ⟨hs, hn⟩
    obtain ⟨e, he, rfl, rfl, hm⟩ := held t h hs
    cases hn.symm.trans hm
    exact he
  · rcases (bounds t h).1 with b | b <;> cases b.symm.trans e
    decide +kernel
  · rcases (bounds t h).2.1 with b | b <;> cases b.symm.trans e
    decide +kernel
  · rcases (bounds t h).2.2 with b | b <;> cases b.symm.trans e
    decide +kernel
  · rcases demoStep_lights t with l | l <;> cases l.symm.trans e
  · exact absurd m (List.not_mem_nil)

theorem witness_EveryStepKeepsTheHomeTable :
    ChipInv demoStep ∧ TableInv demoStep ∧ demoStep.undoInFlight ∧ ∃ u, step demoStep = .next u :=
  ⟨witness_EveryStepKeepsTheChip.1, demoStep_table, (fun _ _ _ _ _ _ h => by cases h), demoStep_answers⟩

theorem witness_EveryStepKeepsTheReadouts :
    ∃ s, TableInv s ∧ MeterInv s ∧ s.meter.readouts = demoReadouts ∧ ∃ u, step s = .next u := by
  have b := demoStep_table
  refine ⟨{ demoMeter demoReadouts with pending := [.confirm 3 2] },
    ⟨b.settings, b.homes, b.serials, b.index, b.admitted, b.silence, b.polls, b.relapses, b.outcomes,
      b.undos, b.off, b.disabled⟩,
    ⟨by decide +kernel, by decide +kernel, by decide +kernel, by decide +kernel, by decide +kernel, ?_,
      ?_, by decide +kernel⟩, rfl, ⟨_, rfl⟩⟩
  · have marked : ∀ d ∈ (demoMeter demoReadouts).meter.departed, d.mark = some 2 := by decide +kernel
    intro d hd tag h
    cases (marked d hd).symm.trans h
    exact ⟨demoDelivered, by decide +kernel, rfl, rfl⟩
  · have open_ : ∀ x ∈ demoHomes, ∀ y, x.usage = some y → y.inSnapshot = none := by
      intro x hx
      simp only [demoHomes, List.mem_cons, List.not_mem_nil, or_false] at hx
      rcases hx with rfl | rfl | rfl | rfl | rfl | rfl | rfl | rfl | rfl | rfl <;>
        exact fun _ h => (by cases h <;> rfl)
    intro t h x tag hx ht
    cases (open_ _ (demoStep_homes t h) x hx).symm.trans ht

theorem witness_EveryStepKeepsTheWatch :
    TableInv demoStep ∧ WatchInv demoStep ∧ ∃ u, step demoStep = .next u := by
  refine ⟨demoStep_table, ⟨fun t d h => ?_, fun t _ => ?_, fun t v h => ?_⟩, demoStep_answers⟩
  · rcases demoStep_lights t with h' | h' <;> rw [h'] at h <;> cases h
  · revert t
    decide +kernel
  · rcases demoStep_lights t with h' | h' <;> rw [h'] at h <;> cases h

/-! ### Operand checks: one ill-formed command for each -/

theorem test_wf_light :
    (Instr.roundReceiveEnd 0 (List.replicate 3959 0)).wf = false
    ∧ (Instr.arrival 0 ⟨[⟨0, 0, List.replicate 7 0⟩], 0, 0, []⟩).wf = false
    ∧ (Instr.arrival 0 ⟨[], 0, 0, List.replicate 33 0⟩).wf = false
    ∧ (Instr.discoveryReply 0 ⟨[], 0, List.replicate 10 0⟩).wf = false := by decide +kernel

theorem test_wf_burstLength (payload : List Byte) (h : payload.length = 96032) :
    (Instr.arrival 0 ⟨[], 0, 0, payload⟩).wf = false := by simp [Instr.wf, h]

theorem test_wf_settings :
    (Instr.settings 32 demoSettings).wf = false
    ∧ ∀ c ∈ [{ demoSettings with capacity := 16777216 }, { demoSettings with admitCap := 65536 },
        { demoSettings with tiers := tabulate (fun _ => ⟨65536, 0⟩) },
        { demoSettings with tiers := tabulate (fun _ => ⟨0, 65536⟩) },
        { demoSettings with unitExp := 256 }, { demoSettings with callEvery := 256 },
        { demoSettings with pollEvery := 256 }, { demoSettings with silentLimit := 256 },
        { demoSettings with levelMin := -32769 }, { demoSettings with levelMax := 32768 },
        { demoSettings with litLevel := 32768 }, { demoSettings with darkLitMin := 256 },
        { demoSettings with darkRounds := 256 }, { demoSettings with verifyRounds := 256 },
        { demoSettings with scoreLimit := 256 }, { demoSettings with relapseLimit := 256 },
        { demoSettings with claimWait := 65536 }, { demoSettings with admitWait := 16777216 },
        { demoSettings with lostHold := 16777216 }, { demoSettings with quenchHold := 16777216 },
        { demoSettings with barHold := 16777216 }, { demoSettings with foreignRetry := 16777216 },
        { demoSettings with pickupWait := 65536 }, { demoSettings with confirmWait := 65536 },
        { demoSettings with secondManager := 256 }], (Instr.settings 3 c).wf = false := by decide +kernel

theorem test_wf_messages :
    ∀ c ∈ [Instr.queryChip 32 ⟨0, 0, 0, 0⟩, .queryTree 32 ⟨0, 0, 0, 0⟩, .queryHome 3 ⟨256, 0, 0, 0⟩,
      .queryHome 3 ⟨0, 256, 0, 0⟩, .queryHome 3 ⟨0, 0, 256, 0⟩, .admission 32 0 0 0, .admission 3 0 256 0,
      .admission 3 0 0 4294967296, .refuse 32 0, .release 32 0, .dismiss 32 0, .restart 32 0, .restart 3 256,
      .read 32 0 0 0 0, .read 3 256 0 0 0, .read 3 0 256 0 0, .read 3 0 0 256 0, .read 3 0 0 0 256,
      .confirm 32 0, .confirm 3 256, .claimReceived 32 0 0 0, .claimReceived 5 0 256 0,
      .claimReceived 5 0 0 256, .objectReceived 32 0 0 0, .objectReceived 5 0 256 0,
      .objectReceived 5 0 0 256, .demandReceived 32 0 0 0, .demandReceived 5 65536 0 0,
      .demandReceived 5 0 65536 0, .demandReceived 5 0 0 65536], c.wf = false := by decide +kernel

theorem test_wf_internal :
    ∀ c ∈ [Instr.claimSentReport 0 0 65536, .claimDroppedReport 0 0 65536, .scoreQuenchRequest 0 0 65536,
      .searchQuenchRequest 0 0 65536, .undoRequest 0 0 65536 none false, .pickupWaitExpiry 0,
      .pickupWaitExpiry 256, .confirmWaitExpiry 0, .confirmWaitExpiry 256], c.wf = false := by
  decide +kernel

/-! ### Worked examples of the manual -/

/-- The state after a command. -/
def after (c : Instr) (s : State) : State :=
  match exec c s with
  | .next u => u
  | .fault _ | .refused _ => s

/-- Section 4.2.1: an offset of 9437 with a random delay of 117 gives rtt 8501 and eqd 4299. -/
theorem test_ranging :
    let light := { demoReply 37 30 117 (-212) with levels := List.replicate 37 (-399) ++ [-200] }
    let s := demo.modTree 0 (fun tr => { tr with
      rx := { tr.rx with window := some { demoWindow with replyStep := 9400 } } })
    let r := (after (.discoveryReply 0 light) s).record 0 6
    (r.state, r.rtt, r.eqd) = (.claiming, some 8501, some 4299) := by decide +kernel

/-- Section 4.2.1: an offset of 300 with a random delay of 40 gives -20, which is RANGE_BAD. -/
theorem test_rangeBad :
    let s := demo.modTree 0 (fun tr => { tr with
      rx := { tr.rx with window := some { demoWindow with replyStep := 270 } } })
    ((after (.discoveryReply 0 (demoReply 30 30 40 (-212))) s).tree 0).enrol.rangeBad = 1 := by
  decide +kernel

/-- Section 4.7: a DRIFTED arrival at +7 shortens the delay from 4299 to 4292. -/
theorem test_retrim :
    let r := { (demo.record 0 0) with rtt := some 8501, eqd := some 4299 }
    let u := after (.arrival 0 (demoLight 7 0 (-399))) (demo.modRecord 0 0 (fun _ => r))
    ((u.record 0 0).rtt, (u.record 0 0).eqd, (u.home 0 0).trimHold) = (some 8508, some 4292, some 16) := by
  decide +kernel

/-- Section 4.7: 3100 + 80 is within an ADMIT_CAP of 3200, and 3180 - 80 + 160 is not; here with tier 7's
350 in the place of 80. -/
theorem test_admitCapacity :
    ((after (.admission 3 12 7 0) (demoCap 650)).record 0 2).tier = some 7
    ∧ ((after (.admission 3 12 7 0) (demoCap 649)).record 0 2).state = .awaiting := by decide +kernel

/-- Section 2.4.1: the silence that reaches SILENT_LIMIT loses the home and starts LOST_HOLD. -/
theorem test_silence :
    let u := after (.arrival 0 ⟨[], -399, -399, []⟩)
      (demo.modRecord 0 0 (fun r => { r with silence := some 3 }))
    ((u.record 0 0).state, (u.record 0 0).stateTimer) = (.lost, some 20) := by decide +kernel

/-- Section 3.11: on a full queue an URGENT newcomer displaces the youngest BULK entry; a DEMAND replaces
the DEMAND that waits and no drop is counted. -/
theorem test_queuePressure :
    let quota := fun n => Msg.quota { demo.quotaNotice 0 0 with total := n }
    let q := List.replicate 10 (demoEntry normalMsg 0 false)
      ++ [demoEntry (quota 1) 0 false, demoEntry (quota 2) 0 false, demoEntry bulkMsg 0 false,
        demoEntry (quota 4) 0 false, demoEntry (quota 5) 0 false, demoEntry (quota 6) 0 false]
    let u1 := (demoQueue q).postEntry (demoEntry urgentMsg 0 false)
    let d2 := u1.postEntry (demoEntry (.demand 9 9 9) 0 false)
    (u1.bus.queue.length, u1.bus.counters.dropped, d2.bus.queue.length, d2.bus.counters.dropped)
      = (16, 1, 16, 1)
    ∧ u1.bus.queue.getLast? = some (demoEntry urgentMsg 0 false)
    ∧ demoEntry (quota 6) 0 false ∉ u1.bus.queue ∧ demoEntry bulkMsg 0 false ∉ d2.bus.queue := by
  decide +kernel

/-- Section 5.9: the trees share a pool of 1850 as 786 and 1064, and tree 1's homes their part as 740 and
324; the pointers move to 1 and 6. -/
theorem test_fullRound :
    let trees := [Want.mk 0 1000, ⟨1, 1356⟩]
    let homes := [Want.mk 0 1600, ⟨5, 700⟩]
    trees.map (allot 0 1850 trees) = [786, 1064] ∧ pointerAfter 4 0 1850 trees = 1
    ∧ homes.map (allot 3 1064 homes) = [740, 324] ∧ pointerAfter 128 3 1064 homes = 6 := by decide +kernel

/-- Section 5.10: tree 1's committed demand is fitted to 1950 blocks, and then the chip's to a share of
2000; nothing is left for a pool. -/
theorem test_tightShare :
    let one : TreeBuild := ⟨1, true, [⟨0, 1, 600, 600⟩, ⟨1, 1, 500, 500⟩, ⟨2, 1, 400, 400⟩,
      ⟨3, 1, 300, 300⟩, ⟨4, 1, 200, 200⟩], false⟩
    let zero : TreeBuild := ⟨0, false, [⟨9, 1, 300, 300⟩], false⟩
    one.fit.asks.map Ask.committed = [585, 487, 390, 292, 195]
    ∧ (fitShare 2000 [zero.fit, one.fit]).1.map (fun b => b.asks.map Ask.committed)
      = [[266], [520, 433, 346, 259, 173]]
    ∧ poolOf 2000 (fitShare 2000 [zero.fit, one.fit]).1 (fitShare 2000 [zero.fit, one.fit]).2 = 0 := by
  decide +kernel

/-- Section 5.10: the bursts of tree 1 lie end to end. -/
theorem test_placement :
    (place 0 [(⟨0, 1, 0, 0⟩, 520), (⟨1, 1, 0, 0⟩, 433), (⟨2, 1, 0, 0⟩, 346), (⟨3, 1, 0, 0⟩, 259),
      (⟨4, 1, 0, 0⟩, 173)]).map (fun g => (g.start, g.after))
      = [(0, 522), (522, 957), (957, 1305), (1305, 1566), (1566, 1741)] := by decide +kernel

/-- Sections 6.7.1 to 6.7.3 and 6.7.5, before the clamp. -/
theorem test_shares :
    shareBefore 40000 15000 16000 3 4000 6000 = 13375
    ∧ shareBefore 40000 15000 16000 3 6000 9000 = 20062
    ∧ shareBefore 40000 15000 16000 3 5000 1000 = 6562
    ∧ shareBefore 12000 15000 16000 3 4000 6000 = 3200
    ∧ shareBefore 20000 15000 0 3 4000 0 = 5666
    ∧ shareBefore 40000 1200 3000 1 1200 3000 = 40000 := by decide +kernel

/-- Sections 6.7.4 and 6.7.5: the initial share of a district of 40000 is 1290. -/
theorem test_initialShare :
    (after (.settings 3 demoSettings) State.reset).share.share = 1290 := by decide +kernel

/-- Section 7.9: of the 25 candidates 25 to 49, the test half is 25 to 37. -/
theorem test_searchHalf :
    let candidates := allHomes.filter (fun h => decide (25 ≤ h.val ∧ h.val ≤ 49))
    ((demo.chooseHalf 0 0 candidates).tree 0).light
      = .search ⟨0, allHomes.filter (fun h => decide (25 ≤ h.val ∧ h.val ≤ 37)),
          allHomes.filter (fun h => decide (38 ≤ h.val ∧ h.val ≤ 49)), .chosen⟩ := by decide +kernel

/-- Section 8.8: home 0 in the place of home 12, with its entry, its tier-independent quota and UNIT_EXP
16. -/
def demoQuota (usage : UsageEntry) : State :=
  (demo.modBus (fun b => { b with settings := some { demoSettings with unitExp := 16 } })).modHome 0 0
    (fun x => { x with
      record := { x.record with generation := 9, quota := some 400 }, usage := some usage })

def demoUsage (up down residueUp : Nat) (held : Option Nat) : UsageEntry :=
  { counters := { Counters.zero with up := ⟨up, false⟩, down := ⟨down, false⟩ }
    residueUp := residueUp, residueDown := 10000, interval := 5, inSnapshot := held }

/-- Section 8.8: 32000 bytes up make one unit of 65536 and leave 26464. -/
theorem test_countUp :
    (((demoQuota (demoUsage 150 240 60000 none)).countUp 0 0 32000).home 0 0).usage
      = some (demoUsage 151 240 26464 none) := by decide +kernel

/-- Section 8.8: a commit advances the interval and leaves the open counters; a merge-back adds the
snapshot's. -/
theorem test_commitAndMerge :
    let s := demoQuota (demoUsage 0 9 26464 (some 40))
    let r := SnapshotRecord.taken 10 0 0 9 5
      { Counters.zero with up := ⟨151, false⟩, down := ⟨240, false⟩ }
    ((s.commitRecord r).home 0 0).usage = some { demoUsage 0 9 26464 none with interval := 6 }
    ∧ ((s.mergeRecord r).home 0 0).usage = some (demoUsage 151 249 26464 none)
    ∧ ((s.mergeRecord r).record 0 0).throttled = some true := by decide +kernel

/-- R182: the check over one zero byte, divided by hand. -/
theorem test_check : checkOfBytes [0] = 0xE1F0 := by decide +kernel

/-- R186: the fields of a round header and of a SET-DELAY, written out byte by byte. -/
theorem test_headerLayout :
    (headerBytes 0x1234 ⟨0x1235, [⟨9, 0x0102, 0x0304, 1⟩], true⟩ [.setDelay 3 0x1122334455667788 4299]).take 22
      = [0x12, 0x34, 1, 1, 1, 9, 1, 2, 3, 4, 0, 3, 0x11, 0x22, 0x33, 0x44, 0x55, 0x66, 0x77, 0x88,
        0x10, 0xCB] := by decide +kernel

/-- R172: a power-on reset and its end with every strap at 0 leave the state after reset. -/
theorem test_resetEnd : after (.resetEnd 0) (after .powerOnReset State.reset) = State.reset := by
  decide +kernel

/-- The table gives no bits, so no word spells a command. -/
theorem test_noWords : decodeTableWord 16 0x1234 = none ∧ demo.withFetchWord 16 0x1234 = demo :=
  ⟨rfl, rfl⟩

end Sys2Proof.Tests
end

section
/-! SUPPORT. The Monitor's operations on a tree's light state and test_dark flags (chapter 7): for each the
light state, the homes, what it leaves alone and its traffic; then the judgment of a test round (O17) and
the verification (O19). -/

namespace Sys2Proof.Machine

/-! ### Test_dark flags -/

@[simp] theorem State.tree_setTestDark_self (s : State) (t : TreeId) (f : HomeIdx → Option Bool) :
    (s.setTestDark t f).tree t =
      (s.tree t).mapHomes (fun h x => { x with record := { x.record with testDark := f h } }) :=
  State.tree_modTree_self _ _ _

@[simp] theorem State.tree_setTestDark_other (s : State) (t u : TreeId) (f : HomeIdx → Option Bool)
    (hu : u ≠ t) : (s.setTestDark t f).tree u = s.tree u := State.tree_modTree_other _ _ _ _ hu

@[simp] theorem State.home_setTestDark (s : State) (t : TreeId) (f : HomeIdx → Option Bool)
    (h : HomeIdx) : (s.setTestDark t f).home t h =
      { s.home t h with record := { s.record t h with testDark := f h } } := by
  simp [State.home, State.record]

/-! ### The frame of the watch -/

theorem State.onlyWatch.trans {a b c : State} {t : TreeId} (p : a.onlyWatch b t) (q : b.onlyWatch c t) :
    a.onlyWatch c t := by
  obtain ⟨pchip, pindex, pmeter, pothers, pline, ptx⟩ := p
  obtain ⟨qchip, qindex, qmeter, qothers, qline, qtx⟩ := q
  exact ⟨pchip.trans qchip, qindex.trans pindex, qmeter.trans pmeter,
    fun v hv => (qothers v hv).trans (pothers v hv), pline.trans qline, qtx.trans ptx⟩

theorem State.setLight_onlyWatch (s : State) (t : TreeId) (l : Light) :
    s.onlyWatch (s.setLight t l) t :=
  ⟨s.sameChip_refl, rfl, rfl, fun v hv => by simp [hv], by simp [Tree.sameLine], by simp⟩

theorem State.setTestDark_onlyWatch (s : State) (t : TreeId) (f : HomeIdx → Option Bool) :
    s.onlyWatch (s.setTestDark t f) t :=
  ⟨s.sameChip_refl, rfl, rfl, fun v hv => by simp [hv], by simp [Tree.sameLine], by simp⟩

theorem State.raise_onlyWatch (s : State) (t : TreeId) (c : Instr) : s.onlyWatch (s.raise c) t :=
  ⟨s.sameChip_refl, rfl, rfl, fun _ _ => rfl, (s.tree t).sameLine_refl, rfl⟩

theorem State.alarm_onlyWatch (s : State) (t : TreeId) (a : Alarm) : s.onlyWatch (s.alarm a) t :=
  ⟨s.postEntry_sameChip _, State.post_serialIndex _ _ _ _, State.post_meter _ _ _ _,
    fun _ _ => State.post_tree _ _ _ _ _,
    by simpa [State.alarm] using (s.tree t).sameLine_refl, by simp [State.alarm]⟩

/-- New test_dark flags with a new light state, which is how a search starts a step or ends. -/
theorem State.setTestDark_setLight_onlyWatch (s : State) (t : TreeId) (f : HomeIdx → Option Bool)
    (l : Light) : s.onlyWatch ((s.setTestDark t f).setLight t l) t :=
  (s.setTestDark_onlyWatch t f).trans (State.setLight_onlyWatch _ t l)

theorem State.setTestDark_setLight_sameTraffic (s : State) (t : TreeId) (f : HomeIdx → Option Bool)
    (l : Light) : s.sameTraffic ((s.setTestDark t f).setLight t l) := ⟨rfl, rfl, rfl⟩

/-! ### FOREIGN (R142) -/

section foreign
variable (s : State) (t : TreeId) (cause : AlarmCause)

theorem State.enterForeign_light :
    ((s.enterForeign t cause).tree t).light = .foreign (max s.cfg.foreignRetry 1) := by
  simp [State.enterForeign, State.alarm, startTimer]

theorem State.enterForeign_home (h : HomeIdx) : (s.enterForeign t cause).home t h =
    { s.home t h with record := { s.record t h with testDark := none } } := by
  simp [State.enterForeign, State.alarm]

theorem State.enterForeign_onlyWatch : s.onlyWatch (s.enterForeign t cause) t :=
  (s.setTestDark_setLight_onlyWatch t _ _).trans (State.alarm_onlyWatch _ t _)

theorem State.enterForeign_sameTraffic :
    (s.alarm { plainAlarm .foreignLight t s.round (some cause) with
      figure := (s.tree t).rx.lastLit.getD 0 }).sameTraffic (s.enterForeign t cause) :=
  State.sameTraffic_post (s.setTestDark_setLight_sameTraffic t _ _) _ _ _

end foreign

/-! ### The steps of a search and its end (R131, R136) -/

section search
variable (s : State) (t : TreeId)

theorem State.chooseHalf_light (streak : Nat) (candidates : List HomeIdx) :
    ((s.chooseHalf t streak candidates).tree t).light = .search
      { clearStreak := streak, testHalf := candidates.take ((candidates.length + 1) / 2)
        rest := candidates.drop ((candidates.length + 1) / 2), phase := .chosen } := by
  simp [State.chooseHalf]

theorem State.chooseHalf_home (streak : Nat) (candidates : List HomeIdx) (h : HomeIdx) :
    (s.chooseHalf t streak candidates).home t h = { s.home t h with record := { s.record t h with
      testDark := some (decide (h ∈ candidates.take ((candidates.length + 1) / 2))) } } := by
  simp [State.chooseHalf]

theorem State.chooseHalf_onlyWatch (streak : Nat) (candidates : List HomeIdx) :
    s.onlyWatch (s.chooseHalf t streak candidates) t := s.setTestDark_setLight_onlyWatch t _ _

theorem State.chooseHalf_sameTraffic (streak : Nat) (candidates : List HomeIdx) :
    s.sameTraffic (s.chooseHalf t streak candidates) := s.setTestDark_setLight_sameTraffic t _ _

theorem State.endSearch_light (h : HomeIdx) : ((s.endSearch t h).tree t).light = .verify
    { home := h, generation := (s.record t h).generation, outcome := none, startRound := none
      counted := 0, lit := 0, refuseNoted := false } := by
  simp [State.endSearch]

theorem State.endSearch_home (h k : HomeIdx) : (s.endSearch t h).home t k =
    { s.home t k with record := { s.record t k with testDark := none } } := by
  simp [State.endSearch]

theorem State.endSearch_onlyWatch (h : HomeIdx) : s.onlyWatch (s.endSearch t h) t :=
  (s.setTestDark_setLight_onlyWatch t _ _).trans (State.raise_onlyWatch _ t _)

theorem State.endSearch_sameTraffic (h : HomeIdx) :
    (s.raise (.searchQuenchRequest t h (s.record t h).generation)).sameTraffic (s.endSearch t h) :=
  ⟨rfl, rfl, rfl⟩

/-! ### The judgment of a step (R133) -/

/-- With two candidates or more left, the search takes its next step. -/
theorem State.judged_of_two_le (streak : Nat) {left : List HomeIdx} (hlen : 2 ≤ left.length) :
    s.judged t streak left = s.chooseHalf t streak left := by
  match left, hlen with
  | _ :: _ :: _, _ => rfl

theorem State.judged_onlyWatch (streak : Nat) (left : List HomeIdx) :
    s.onlyWatch (s.judged t streak left) t := by
  match left with
  | [] => exact s.enterForeign_onlyWatch t _
  | [h] => exact s.endSearch_onlyWatch t h
  | a :: b :: l => exact s.chooseHalf_onlyWatch t _ _

theorem State.judged_home (streak : Nat) (left : List HomeIdx) (h : HomeIdx) :
    (s.judged t streak left).home t h = { s.home t h with record := { s.record t h with
      testDark := if 2 ≤ left.length then some (decide (h ∈ left.take ((left.length + 1) / 2)))
        else none } } := by
  match left with
  | [] => exact s.enterForeign_home t _ h
  | [k] => exact s.endSearch_home t k h
  | a :: b :: l =>
    rw [if_pos (by simp)]
    exact s.chooseHalf_home t _ _ h

end search

/-- The round receive end of the test round is the step's judgment. -/
theorem State.monitorReceiveEnd_testing {s : State} {t : TreeId} {d : Search} {round : Nat}
    (hlight : (s.tree t).light = .search d) (hphase : d.phase = .testing round) (lit : Bool) :
    s.monitorReceiveEnd t round lit
      = s.judged t d.clearStreak (if lit then d.rest else d.testHalf) := by
  simp [State.monitorReceiveEnd, hlight, State.searchReceiveEnd, hphase]

/-- Settles O17: the round receive end is `judged` of the half that the light points to, and each clause
is what the operation of its case does. -/
theorem testRoundHalvesTheSearch : Obligations.TestRoundHalvesTheSearch := by
  intro s t d round lit hlight hphase left u
  have hu : u = s.judged t d.clearStreak left := State.monitorReceiveEnd_testing hlight hphase lit
  clear_value left u
  subst hu
  refine ⟨s.judged_onlyWatch t _ _, s.judged_home t _ _, fun hlen => ?_, fun h hleft => ?_,
    fun hleft => ?_⟩
  · rw [s.judged_of_two_le t _ hlen]
    refine ⟨s.chooseHalf_sameTraffic t _ _, _, s.chooseHalf_light t _ _, rfl,
      List.take_append_drop _ _, ?_, rfl⟩
    rw [List.length_take]
    omega
  · subst hleft
    exact ⟨s.endSearch_light t h, s.endSearch_sameTraffic t h⟩
  · subst hleft
    exact ⟨s.enterForeign_light t _, s.enterForeign_sameTraffic t _⟩

/-! ### The rounds of a verification (R138, R139) -/

/-- Counting modulo 65536 undoes going on by `k` rounds (R1). -/
theorem roundsSince_add {start k : Nat} (hstart : start < 65536) (hk : k < 65536) :
    roundsSince start ((start + k) % 65536) = k := by
  unfold roundsSince Config.roundWrap
  omega

/-- The verify data after one more round was counted, lit or not. -/
def Verify.count (v : Verify) (lit : Bool) : Verify :=
  { v with counted := v.counted + 1, lit := v.lit + if lit then 1 else 0 }

section verify
variable {s : State} {t : TreeId} {v : Verify}

theorem State.monitorReceiveEnd_unstarted (hlight : (s.tree t).light = .verify v)
    (hstart : v.startRound = none) (round : Nat) (lit : Bool) :
    s.monitorReceiveEnd t round lit = s := by
  simp [State.monitorReceiveEnd, hlight, State.verifyReceiveEnd, hstart]

/-- The round receive end of a verification that has started: outside rounds v + 1 to v + VERIFY_ROUNDS
nothing, inside a count, and at the last of them the end. -/
theorem State.monitorReceiveEnd_started {start round : Nat} (hlight : (s.tree t).light = .verify v)
    (hstart : v.startRound = some start) (lit : Bool) :
    s.monitorReceiveEnd t round lit =
      if 1 ≤ roundsSince start round ∧ roundsSince start round ≤ s.cfg.verifyRounds then
        if roundsSince start round = s.cfg.verifyRounds then s.endVerify t (v.count lit)
        else s.setLight t (.verify (v.count lit))
      else s := by
  simp only [State.monitorReceiveEnd, hlight, State.verifyReceiveEnd, hstart, Verify.count]
  cases lit <;> rfl

/-! ### The end of a verification (R139) -/

theorem State.endVerify_confirmed (hfew : 2 * v.lit < s.cfg.verifyRounds) :
    s.endVerify t v = (s.alarm (s.rogueFoundAlarm t v.home .confirmed)).setLight t (.clear 0) :=
  if_neg (Nat.not_le.mpr hfew)

theorem State.endVerify_failed (hmany : s.cfg.verifyRounds ≤ 2 * v.lit) :
    s.endVerify t v =
      (s.raise (.undoRequest t v.home v.generation v.outcome v.refuseNoted)).enterForeign t
        .verifyFailed :=
  if_pos hmany

end verify

/-- Settles O19: round v + k is k rounds after v, which says which branch of the round receive end is
taken; the two ends are an alarm with CLEAR, and an undo request with FOREIGN. -/
theorem verificationCountsAndEnds : Obligations.VerificationCountsAndEnds := by
  intro s t v round lit hlight u litNow
  refine ⟨fun hnone => State.monitorReceiveEnd_unstarted hlight hnone round lit, ?_⟩
  intro start hstart hstartLt _ k hkLt hround
  have hu : u = _ := State.monitorReceiveEnd_started (round := round) hlight hstart lit
  rw [← hround, roundsSince_add hstartLt hkLt] at hu
  clear_value u
  subst hu
  refine ⟨fun hout => ?_, fun hpos hlt => ?_, fun hpos hlast hfew => ?_, fun hpos hlast hmany => ?_⟩
  · rw [if_neg (by omega)]
  · rw [if_pos (by omega), if_neg (by omega)]
    rfl
  · rw [if_pos (by omega), if_pos hlast, State.endVerify_confirmed hfew]
    exact ⟨by simp, (s.alarm_onlyWatch t _).trans (State.setLight_onlyWatch _ t _),
      fun h => by simp [State.alarm],
      State.sameTraffic_modTree (State.sameTraffic_refl _) t _⟩
  · rw [if_pos (by omega), if_pos hlast, State.endVerify_failed hmany]
    exact ⟨State.enterForeign_light _ t _,
      (s.raise_onlyWatch t _).trans (State.enterForeign_onlyWatch _ t _),
      fun h => State.enterForeign_home _ t _ h,
      State.enterForeign_sameTraffic _ t _⟩

end Sys2Proof.Machine
end

section
/-! SUPPORT. The clamping of accepted settings (R176): what `clampNat`, `clampLevel` and a tier's clamping do
to a value below, above and within its range; that `settingRanges` names every plain number among the
settings; then the clamped settings (O31). -/

namespace Sys2Proof.Machine

/-! ### One number -/

section number
variable {low high n : Nat}

theorem clampNat_of_lt (hn : n < low) : clampNat low high n = low := by
  unfold clampNat
  omega

theorem clampNat_of_gt (hrange : low ≤ high) (hn : high < n) : clampNat low high n = high := by
  unfold clampNat
  omega

theorem clampNat_of_mem (hlow : low ≤ n) (hhigh : n ≤ high) : clampNat low high n = n := by
  unfold clampNat
  omega

theorem clampNat_mem (hrange : low ≤ high) (n : Nat) :
    low ≤ clampNat low high n ∧ clampNat low high n ≤ high := by
  unfold clampNat
  omega

end number

/-! ### A level -/

theorem clampLevel_eq_ite (x : Int) :
    clampLevel x = if x < -400 then -400 else if -50 < x then -50 else x := by
  unfold clampLevel
  split_ifs <;> omega

theorem clampLevel_mem (x : Int) : -400 ≤ clampLevel x ∧ clampLevel x ≤ -50 := by
  unfold clampLevel
  omega

theorem clampLevel_of_mem {x : Int} (hlow : -400 ≤ x) (hhigh : x ≤ -50) : clampLevel x = x := by
  unfold clampLevel
  omega

/-! ### A tier's rates -/

theorem TierRates.clamped_eq (r : TierRates) :
    TierRates.clamped r = ⟨min r.cr 2000,
      if 3000 < r.pr then 3000 else if r.pr < min r.cr 2000 then min r.cr 2000 else r.pr⟩ := by
  have hcr : clampNat 0 2000 r.cr = min r.cr 2000 := Nat.zero_max _
  have hrange : min r.cr 2000 ≤ 3000 := by omega
  rw [TierRates.clamped, hcr]
  congr 1
  split_ifs with habove hbelow
  · exact clampNat_of_gt hrange habove
  · exact clampNat_of_lt hbelow
  · exact clampNat_of_mem (by omega) (by omega)

theorem TierRates.clamped_mem (r : TierRates) :
    (TierRates.clamped r).cr ≤ 2000 ∧ (TierRates.clamped r).cr ≤ (TierRates.clamped r).pr
      ∧ (TierRates.clamped r).pr ≤ 3000 := by
  have hcr := (clampNat_mem (Nat.zero_le 2000) r.cr).2
  exact ⟨hcr, clampNat_mem (hcr.trans (by omega)) r.pr⟩

theorem TierRates.clamped_of_mem {r : TierRates} (hcr : r.cr ≤ 2000) (hle : r.cr ≤ r.pr)
    (hpr : r.pr ≤ 3000) : TierRates.clamped r = r := by
  rw [TierRates.clamped, clampNat_of_mem (Nat.zero_le _) hcr, clampNat_of_mem hle hpr]

/-! ### The settings -/

/-- Two settings that agree on every number of `settingRanges`, on each tier and on the five other fields
are the same: the list leaves no number out. -/
theorem settings_eq_of_agree {a b : Settings} (hnumbers : ∀ p ∈ settingRanges, p.1 a = p.1 b)
    (henabled : a.enabled = b.enabled) (htiers : ∀ k, a.tiers.get k = b.tiers.get k)
    (hmin : a.levelMin = b.levelMin) (hmax : a.levelMax = b.levelMax)
    (hlit : a.litLevel = b.litLevel) (halias : a.aliasOn = b.aliasOn) : a = b := by
  have hvector : a.tiers = b.tiers := Vector.ext fun k hk => htiers ⟨k, hk⟩
  simp only [settingRanges, List.forall_mem_cons] at hnumbers
  cases a
  cases b
  simp_all

theorem settingRanges_low_le_high : ∀ p ∈ settingRanges, p.2.1 ≤ p.2.2 := by
  simp [settingRanges]

section settings
variable (raw : Settings)

/-- Each number of `settingRanges` is clamped to the range that the list gives it. -/
theorem clampSettings_number :
    ∀ p ∈ settingRanges, p.1 (clampSettings raw) = clampNat p.2.1 p.2.2 (p.1 raw) := by
  simp [settingRanges, clampSettings]

theorem clampSettings_tier (k : Fin 8) :
    (clampSettings raw).tiers.get k = TierRates.clamped (raw.tiers.get k) := get_tabulate _ _

theorem clampSettings_enabled_of_none {raw : Settings} (hnone : raw.enabled = 0) :
    (clampSettings raw).enabled = 1 := if_pos hnone

theorem clampSettings_enabled_of_some {raw : Settings} (hsome : raw.enabled ≠ 0) :
    (clampSettings raw).enabled = raw.enabled := if_neg hsome

theorem clampSettings_enabled_ne_zero : (clampSettings raw).enabled ≠ 0 := by
  by_cases hnone : raw.enabled = 0
  · rw [clampSettings_enabled_of_none hnone]
    decide
  · rwa [clampSettings_enabled_of_some hnone]

theorem clampSettings_inRange : settingsInRange (clampSettings raw) := by
  have hmin := clampLevel_mem raw.levelMin
  have hmax := clampLevel_mem raw.levelMax
  refine ⟨clampSettings_enabled_ne_zero raw, fun p hp => ?_, fun k => ?_,
    le_min hmin.1 hmax.1, min_le_max, max_le hmin.2 hmax.2, clampLevel_mem raw.litLevel⟩
  · rw [clampSettings_number raw p hp]
    exact clampNat_mem (settingRanges_low_le_high p hp) _
  · rw [clampSettings_tier]
    exact TierRates.clamped_mem _

theorem clampSettings_of_inRange {raw : Settings} (hrange : settingsInRange raw) :
    clampSettings raw = raw := by
  obtain ⟨henabled, hnumbers, htiers, hlow, hlevels, hhigh, hlitLow, hlitHigh⟩ := hrange
  have hmin := clampLevel_of_mem hlow (hlevels.trans hhigh)
  have hmax := clampLevel_of_mem (hlow.trans hlevels) hhigh
  refine settings_eq_of_agree (fun p hp => ?_) (clampSettings_enabled_of_some henabled)
    (fun k => ?_) ?_ ?_ (clampLevel_of_mem hlitLow hlitHigh) rfl
  · obtain ⟨hplow, hphigh⟩ := hnumbers p hp
    rw [clampSettings_number raw p hp, clampNat_of_mem hplow hphigh]
  · obtain ⟨hcr, hle, hpr⟩ := htiers k
    rw [clampSettings_tier, TierRates.clamped_of_mem hcr hle hpr]
  · calc (clampSettings raw).levelMin
        = min (clampLevel raw.levelMin) (clampLevel raw.levelMax) := rfl
      _ = raw.levelMin := by rw [hmin, hmax, min_eq_left hlevels]
  · calc (clampSettings raw).levelMax
        = max (clampLevel raw.levelMin) (clampLevel raw.levelMax) := rfl
      _ = raw.levelMax := by rw [hmin, hmax, max_eq_right hlevels]

end settings

/-- Settles O31: every clause is what clamping does to the one field it speaks of. -/
theorem settingsAreClampedToTheirRanges : Obligations.SettingsAreClampedToTheirRanges := by
  intro raw
  refine ⟨fun p hp => ?_, fun k => ?_, clampSettings_enabled_of_none, clampSettings_enabled_of_some,
    rfl, ?_, clampSettings_inRange raw, clampSettings_of_inRange⟩
  · rw [clampSettings_number raw p hp]
    exact ⟨clampNat_of_lt, clampNat_of_gt (settingRanges_low_le_high p hp), clampNat_of_mem⟩
  · rw [clampSettings_tier, TierRates.clamped_eq]
  · exact ⟨clampLevel_eq_ite _, congrArg₂ min (clampLevel_eq_ite _) (clampLevel_eq_ite _),
      congrArg₂ max (clampLevel_eq_ite _) (clampLevel_eq_ite _)⟩

end Sys2Proof.Machine
end

section
/-! SUPPORT. Management requests on records, claims and objections (chapters 2 and 4): the record that a
change of state leaves, by the state entered; then the statements O1 to O3 and O5 to O8. -/

namespace Sys2Proof.Machine

/-! ### The record that a change of state leaves (R28, R126, R135) -/

section entry
variable (s : State) (t : TreeId) (h : HomeIdx) (timer : Option Nat) (cause : Cause)

theorem relapsesAfter_none (limit : Nat) (cause : Cause) : relapsesAfter limit cause none = none := by
  cases cause <;> rfl

/-- Only a record that is freed or quenched by score loses its test_dark flag (R135). -/
theorem darkAfterNotice_stays (l : Light) {new : RecordState} {cause : Cause} (dark : Option Bool)
    (hnew : new ≠ .free) (hcause : cause ≠ .scoreQuench) : darkAfterNotice l new cause dark = dark := by
  simp [darkAfterNotice, hnew, hcause]

/-- A record that comes to CLAIMING, AWAITING or BARRED holds no tier. -/
theorem State.entry_untiered {new : RecordState} (hnew : new ≠ .free) (htier : isTiered new = false)
    (hcause : cause ≠ .scoreQuench) :
    s.entry t h new timer cause = (s.record t h).untiered new timer := by
  have hact : new ≠ .active := by rintro rfl; cases htier
  simp [State.entry, HomeRecord.noticed, HomeRecord.enter, HomeRecord.untiered, HomeRecord.standing,
    keepIf, hnew, hact, htier, relapsesAfter_none, darkAfterNotice_stays _ _ hnew hcause]

/-- A record that comes to ACTIVE keeps its tier and starts its counts. -/
theorem State.entry_active (hcause : cause ≠ .scoreQuench) :
    s.entry t h .active none cause = { (s.record t h).activated with
      relapses := relapsesAfter s.cfg.relapseLimit cause (s.record t h).relapses } := by
  simp [State.entry, HomeRecord.noticed, HomeRecord.enter, HomeRecord.activated, keepIf, isTiered,
    darkAfterNotice_stays _ _ (show RecordState.active ≠ .free by decide) hcause]

/-- A record that comes to QUENCHED or LOST keeps its tier and loses its counts. -/
theorem State.entry_standing {new : RecordState} (htier : isTiered new = true) (hact : new ≠ .active) :
    s.entry t h new timer cause = { (s.record t h).standing new timer with
      relapses := relapsesAfter s.cfg.relapseLimit cause (s.record t h).relapses
      testDark := darkAfterNotice (s.tree t).light new cause (s.record t h).testDark } := by
  have hnew : new ≠ .free := by rintro rfl; cases htier
  simp [State.entry, HomeRecord.noticed, HomeRecord.enter, HomeRecord.standing, keepIf, hnew, hact,
    htier]

end entry

/-! ### The light state after a notice that does not concern it -/

/-- A notice that frees nothing, ends no verification and notes no REFUSE leaves the light state. -/
theorem Light.afterNotice_same (l : Light) (h : HomeIdx) (generation : Nat) {new : RecordState}
    {cause : Cause} (hnew : new ≠ .free) (hscore : cause ≠ .scoreQuench) (hrefuse : cause ≠ .refuse)
    (hend : new = .active → cause ≠ .release ∧ cause ≠ .holdEnd) :
    l.afterNotice h generation new cause = l := by
  have hstays : ¬ (new = .active ∧ (cause = .release ∨ cause = .holdEnd)) := by tauto
  cases l <;> simp [Light.afterNotice, hnew, hscore, hrefuse, hstays]

/-! ### Whole changes that queue a word and answer -/

section whole
variable (s : State) (t : TreeId) (h : HomeIdx)

/-- A change of state with its word, as `State.entered`, for a record that comes to CLAIMING, AWAITING or
BARRED. -/
theorem State.entered_untiered (timer : Option Nat) {cause : Cause} (w : ControlWord)
    {new : RecordState} (hnew : new ≠ .free) (htier : isTiered new = false)
    (hscore : cause ≠ .scoreQuench) (hadmit : cause ≠ .admission) :
    s.entered ((s.changeState t h new timer cause).queueWord t w) t h
      ((s.record t h).untiered new timer) cause w := by
  rw [← s.entry_untiered t h timer cause hnew htier hscore]
  exact s.entered_changeState t h new timer cause w hnew hadmit

theorem State.entered_active {cause : Cause} (w : ControlWord)
    (hscore : cause ≠ .scoreQuench) (hadmit : cause ≠ .admission) :
    s.entered ((s.changeState t h .active none cause).queueWord t w) t h
      { (s.record t h).activated with
        relapses := relapsesAfter s.cfg.relapseLimit cause (s.record t h).relapses } cause w := by
  rw [← s.entry_active t h cause hscore]
  exact s.entered_changeState t h .active none cause w (by decide) hadmit

/-- A record outside the tiered states is freed with a DISMISS, and the Meter stands. -/
theorem State.freed_freeWithDismiss {s : State} {t : TreeId} {h : HomeIdx} (reason : DepartedReason)
    {cause : Cause} (hadmit : cause ≠ .admission) (hundo : ∀ p, cause ≠ .undo p)
    (htier : isTiered (s.record t h).state = false) :
    s.freed (s.freeWithDismiss t h cause) t h reason cause
      ∧ (s.freeWithDismiss t h cause).meter = s.meter := by
  have hfreed := s.freed_departWithDismiss t h reason cause hadmit hundo
  rw [State.departWithDismiss_untiered reason cause htier] at hfreed
  refine ⟨hfreed, ?_⟩
  simp [State.freeWithDismiss]

theorem State.freeWithDismiss_sameTraffic {cause : Cause} (hscore : cause ≠ .scoreQuench) :
    s.sameTraffic (s.freeWithDismiss t h cause) :=
  State.sameTraffic_queueWord (s.changeState_sameTraffic t h _ _ _ hscore) t _

theorem State.changeState_queueWord_sameTraffic (new : RecordState) (timer : Option Nat) {cause : Cause}
    (w : ControlWord) (hscore : cause ≠ .scoreQuench) :
    s.sameTraffic ((s.changeState t h new timer cause).queueWord t w) :=
  State.sameTraffic_queueWord (s.changeState_sameTraffic t h _ _ _ hscore) t _

end whole

/-! ### REFUSE and DISMISS (R38, R40) -/

@[simp] theorem State.take_usageAfterHandOff (s : State) (c : Instr) (t : TreeId) (h : HomeIdx) :
    (s.take c).usageAfterHandOff t h = s.usageAfterHandOff t h := rfl

/-- A REFUSE bars the record, after the hand-off that it owes. -/
theorem State.refuseHome_home (s : State) (t : TreeId) (h : HomeIdx) :
    (s.refuseHome t h).home t h =
      { record := (s.record t h).untiered .barred (some (max s.cfg.barHold 1))
        reportSlot := none, trimHold := none, usage := s.usageAfterHandOff t h } := by
  have hentry := State.entry_untiered (s.handOffTiered t h .refused) t h
    (some (startTimer s.cfg.barHold)) .refuse (new := .barred) (by decide) rfl (by decide)
  have hrecord : (s.handOffTiered t h .refused).record t h = s.record t h := by
    rw [State.record, State.handOffTiered_home]; rfl
  rw [hrecord] at hentry
  simp only [State.refuseHome, State.home_queueWord, State.changeState_home, Home.changed]
  rw [show max s.cfg.barHold 1 = startTimer s.cfg.barHold from rfl, ← hentry]
  simp [State.entry, State.record, State.handOffTiered_home]

theorem State.refuseHome_onlyHome (s : State) (t : TreeId) (h : HomeIdx) :
    s.onlyHome (s.refuseHome t h) t h :=
  ((s.handOffTiered_onlyHome t h _).trans (State.changeState_onlyHome _ t h _ _ _)).trans
    (State.queueWord_onlyHome _ t h _)

theorem State.refuseHome_sameTraffic (s : State) (t : TreeId) (h : HomeIdx) :
    s.sameTraffic (s.refuseHome t h) :=
  (s.handOffTiered_sameTraffic t h _).trans
    (State.changeState_queueWord_sameTraffic _ t h _ _ _ (by decide))

/-- Settles O1: a REFUSE is the hand-off, the change to BARRED and a DARKEN; a DISMISS is a departure; the
ACCEPTED after either is a post, which leaves the rest alone. -/
theorem refuseBarsAndDismissFrees : Obligations.RefuseBarsAndDismissFrees := by
  refine ⟨fun s sender serial t h hup hobeys hfound => ?_,
    fun s sender serial t h hup hobeys hfound => ?_⟩
  · refine ⟨((s.take (.refuse sender serial)).refuseHome t h).acceptHome sender .refuse serial,
      ?_, ?_, ?_, ?_, ?_, ?_, ?_, ?_⟩
    · simp [exec, execRefuse, State.whileUp_up hup, hobeys, hfound]
    · simpa [State.acceptHome] using State.refuseHome_home (s.take (.refuse sender serial)) t h
    · simp [State.acceptHome, State.refuseHome, State.handOffTiered_meter]; rfl
    · simp [State.acceptHome, State.refuseHome, State.handOffTiered_tree]
    · simp [State.acceptHome, State.refuseHome, State.changeState_light, State.handOffTiered_tree,
        State.record, State.handOffTiered_home]
    · simp [State.acceptHome, State.refuseHome, State.changeState_serialIndex]
    · exact State.sameTraffic_post (State.refuseHome_sameTraffic _ t h) _ _ _
    · exact ((s.take_onlyHome t h _).trans (State.refuseHome_onlyHome _ t h)).trans
        (State.post_onlyHome _ _ _ _ t h)
  · have hfreed := State.freed_departWithDismiss (s.take (.dismiss sender serial)) t h .dismissed
      .dismiss (by decide) (by simp)
    refine ⟨((s.take (.dismiss sender serial)).departWithDismiss t h .dismissed .dismiss).acceptHome
      sender .dismiss serial, ?_, (hfreed.post _ _ _).untake, ?_⟩
    · simp [exec, execDismiss, State.whileUp_up hup, hobeys, hfound]
    · exact State.sameTraffic_post (State.departWithDismiss_sameTraffic _ t h _ _ (by decide)) _ _ _

/-! ### RELEASE (R39) -/

/-- What a RELEASE of the record it finds answers. -/
theorem exec_release {s : State} {sender : Nat} {serial : Serial} {t : TreeId} {h : HomeIdx}
    (hup : s.inReset = none) (hobeys : s.obeys sender = true) (hfound : s.lookup serial = some (t, h)) :
    exec (.release sender serial) s
      = .next ((s.take (.release sender serial)).releaseHome sender serial t h) := by
  simp [exec, execRelease, State.whileUp_up hup, hobeys, hfound]

/-- Settles O2: a RELEASE goes by the state of the record it finds. -/
theorem releaseEndsTheDark : Obligations.ReleaseEndsTheDark := by
  intro s sender serial t h hup hobeys hfound
  rw [exec_release hup hobeys hfound]
  refine ⟨fun hstate => ⟨_, rfl, ?_, ?_⟩, fun hstate => ⟨_, rfl, ?_, ?_, ?_⟩, fun hquenched hbarred => ?_⟩
  · have hentered := State.entered_active (s.take (.release sender serial)) t h (cause := .release)
      (.light h) (by decide) (by decide)
    simpa [State.releaseHome, hstate, State.acceptHome, relapsesAfter] using
      (hentered.post .enrolment sender (.accepted (.serial .release serial) none)).untake
  · simpa [State.releaseHome, hstate, State.acceptHome] using
      State.sameTraffic_post (State.changeState_queueWord_sameTraffic (s.take (.release sender serial))
        t h .active none (.light h) (cause := .release) (by decide)) .enrolment sender
        (.accepted (.serial .release serial) none)
  · have hfreed := (State.freed_freeWithDismiss (s := s.take (.release sender serial)) (t := t) (h := h)
      .dismissed (cause := .release) (by decide) (by simp) (by simp [hstate, isTiered])).1
    simpa [State.releaseHome, hstate, State.acceptHome] using
      (hfreed.post .enrolment sender (.accepted (.serial .release serial) none)).untake
  · simp [State.releaseHome, hstate, State.acceptHome, State.freeWithDismiss]
  · simpa [State.releaseHome, hstate, State.acceptHome] using
      State.sameTraffic_post (State.freeWithDismiss_sameTraffic (s.take (.release sender serial)) t h
        (cause := .release) (by decide)) .enrolment sender (.accepted (.serial .release serial) none)
  · cases hstate : (s.record t h).state <;>
      simp_all [State.releaseHome, State.declineHome]

/-! ### Requests declined (R37, R78 to R80) -/

/-- What an ADMIT for a tier 0 to 7 of the record it finds answers. -/
theorem exec_admission {s : State} {sender : Nat} {serial : Serial} {t : TreeId} {h : HomeIdx}
    (tier : Fin 8) (quota : Nat) (hup : s.inReset = none) (hobeys : s.obeys sender = true)
    (hfound : s.lookup serial = some (t, h)) :
    exec (.admission sender serial tier quota) s
      = .next ((s.take (.admission sender serial tier quota)).admitAt sender serial tier quota t h) := by
  simp [exec, execAdmit, State.whileUp_up hup, hobeys, hfound]

@[simp] theorem State.take_crSum (s : State) (c : Instr) (t : TreeId) :
    (s.take c).crSum t = s.crSum t := rfl

@[simp] theorem State.take_rates (s : State) (c : Instr) (tier : Fin 8) :
    (s.take c).rates tier = s.rates tier := rfl

@[simp] theorem State.take_ratesOf (s : State) (c : Instr) (r : HomeRecord) :
    (s.take c).ratesOf r = s.ratesOf r := rfl

/-- Settles O3: each request that is declined only posts its answer. -/
theorem requestsAreDeclinedWithTheirReason : Obligations.RequestsAreDeclinedWithTheirReason := by
  refine ⟨fun s sender serial tier quota hup hobeys => ⟨fun hnone => ⟨?_, ?_, ?_, fun htier => ?_⟩,
    fun htier => ?_⟩, fun s sender serial tier quota t h hup hobeys hfound => ?_⟩
  · simp [exec, execRefuse, State.whileUp_up hup, hobeys, hnone, State.declineHome]
  · simp [exec, execRelease, State.whileUp_up hup, hobeys, hnone, State.declineHome]
  · simp [exec, execDismiss, State.whileUp_up hup, hobeys, hnone, State.declineHome]
  · simp [exec, execAdmit, State.whileUp_up hup, hobeys, hnone, htier, State.declineAdmit]
  · simp [exec, execAdmit, State.whileUp_up hup, hobeys, Nat.not_lt.mpr htier, State.declineAdmit]
  · intro c declined
    rw [show exec c s = _ from exec_admission tier quota hup hobeys hfound]
    refine ⟨fun hstate hover => ?_, fun htiered hover => ?_, fun hstate => ?_⟩
    · simp [State.admitAt, hstate, Nat.not_le.mpr hover, State.declineAdmit, declined, c]
    · cases hstate : (s.record t h).state <;> simp_all [isTiered] <;>
        simp [State.admitAt, hstate, Nat.not_le.mpr hover, State.declineAdmit, declined, c]
    · rcases hstate with hstate | hstate <;>
        simp [State.admitAt, hstate, State.declineAdmit, declined, c]

/-! ### Waits and holds that run out (R35, R81, R82, R84, R127) -/

theorem State.expired_of {s : State} {t : TreeId} {h : HomeIdx} {state : RecordState}
    (hstate : (s.record t h).state = state) (htimer : (s.record t h).stateTimer = some 0) :
    s.expired t h state = true := by
  simp [State.expired, hstate, htimer]

/-- Settles O5: each expiry is a departure, a freeing, a return to ACTIVE, or a hold that comes to rest. -/
theorem holdsRunOut : Obligations.HoldsRunOut := by
  refine ⟨fun s t h hup htimer => ⟨fun hstate => ?_, fun hstate => ?_, fun hstate => ?_⟩,
    fun s t h hup => ⟨fun hstate htimer => ?_, fun hhold => ?_⟩⟩
  · refine ⟨_, ?_, s.freed_departWithDismiss t h _ _ (by decide) (by simp),
      s.departWithDismiss_sameTraffic t h _ _ (by decide)⟩
    simp [exec, execLostHoldExpiry, State.whileUp_up hup, State.expired_of hstate htimer]
  · obtain ⟨hfreed, hmeter⟩ := State.freed_freeWithDismiss (s := s) (t := t) (h := h) .dismissed
      (cause := .admitExpired) (by decide) (by simp) (by simp [hstate, isTiered])
    refine ⟨_, ?_, hfreed, hmeter, s.freeWithDismiss_sameTraffic t h (by decide)⟩
    simp [exec, execAdmitWaitExpiry, State.whileUp_up hup, State.expired_of hstate htimer]
  · obtain ⟨hfreed, hmeter⟩ := State.freed_freeWithDismiss (s := s) (t := t) (h := h) .dismissed
      (cause := .barExpired) (by decide) (by simp) (by simp [hstate, isTiered])
    refine ⟨_, ?_, hfreed, hmeter, s.freeWithDismiss_sameTraffic t h (by decide)⟩
    simp [exec, execBarHoldExpiry, State.whileUp_up hup, State.expired_of hstate htimer]
  · refine ⟨_, ?_, s.entered_active t h (cause := .holdEnd) (.light h) (by decide) (by decide),
      s.changeState_queueWord_sameTraffic t h _ _ _ (by decide)⟩
    simp [exec, execQuenchHoldExpiry, State.whileUp_up hup, State.expired_of hstate htimer]
  · refine ⟨s.modHome t h (fun x => { x with trimHold := none }), ?_, ?_, rfl, ?_, ?_, rfl,
      s.modHome_onlyHome t h _, ⟨rfl, rfl, rfl⟩⟩
    · simp [exec, execTrimHoldEnd, State.whileUp_up hup, hhold]
    all_goals simp

/-! ### A CLAIMING record and its CLAIM (R73, R74) -/

theorem State.names_of {s : State} {t : TreeId} {h : HomeIdx} {generation : Nat} {state : RecordState}
    (hstate : (s.record t h).state = state) (hfree : state ≠ .free)
    (hgen : (s.record t h).generation = generation) : s.names t h generation = true := by
  simp [State.names, hstate, hfree, hgen]

theorem State.recordOnly_modRecord (s : State) (t : TreeId) (h : HomeIdx)
    (f : HomeRecord → HomeRecord) : s.recordOnly (s.modRecord t h f) t h (f (s.record t h)) :=
  ⟨by simp [State.modRecord, State.record], rfl, by simp [State.tree_modRecord_self],
    by simp [State.tree_modRecord_self], rfl, s.modRecord_onlyHome t h f⟩

theorem State.recordOnly.post {s u : State} {t : TreeId} {h : HomeIdx} {r : HomeRecord}
    (hf : s.recordOnly u t h r) (p : Block) (d : Nat) (m : Msg) :
    s.recordOnly (u.post p d m) t h r := by
  obtain ⟨hhome, hmeter, htx, hlight, hindex, honly⟩ := hf
  exact ⟨by simpa using hhome, by simpa using hmeter, by simpa using htx, by simpa using hlight,
    by simpa using hindex, honly.trans (State.post_onlyHome _ _ _ _ t h)⟩

theorem State.recordOnly.untake {s u : State} {t : TreeId} {h : HomeIdx} {r : HomeRecord} {c : Instr}
    (hf : (s.take c).recordOnly u t h r) : s.recordOnly u t h r := hf

/-- A report of a record that is not CLAIMING, or is of another generation, is not acted on. -/
theorem State.ignoresReport {s : State} {t : TreeId} {h : HomeIdx} {generation : Nat}
    (hother : (s.record t h).state ≠ .claiming ∨ (s.record t h).generation ≠ generation) :
    (s.names t h generation && decide ((s.record t h).state = .claiming)) = false := by
  rcases hother with hother | hother <;> simp [State.names, hother]

/-- Settles O6: the two reports and the expiry of CLAIM_WAIT, by what each does to a CLAIMING record. -/
theorem claimingRecordFollowsItsClaim : Obligations.ClaimingRecordFollowsItsClaim := by
  refine ⟨fun s t h generation hup => ⟨fun hstate hgen => ⟨?_, ?_⟩, fun hother => ⟨?_, ?_⟩⟩,
    fun s t h hup hstate htimer => ?_⟩
  · refine ⟨_, ?_, (State.recordOnly_modRecord (s.take (.claimSentReport t h generation)) t h
      (fun r => { r with stateTimer := some (startTimer s.cfg.claimWait) })).untake, ⟨rfl, rfl, rfl⟩⟩
    simp [exec, execClaimSentReport, State.whileUp_up hup, State.names_of hstate (by decide) hgen,
      hstate]
  · obtain ⟨hfreed, hmeter⟩ := State.freed_freeWithDismiss (s := s.take (.claimDroppedReport t h generation))
      (t := t) (h := h) .dismissed (cause := .claimDropped) (by decide) (by simp)
      (by simp [hstate, isTiered])
    refine ⟨_, ?_, hfreed.untake, hmeter, State.freeWithDismiss_sameTraffic _ t h (by decide)⟩
    simp [exec, execClaimDroppedReport, State.whileUp_up hup, State.names_of hstate (by decide) hgen,
      hstate]
  · simp [exec, execClaimSentReport, State.whileUp_up hup, State.ignoresReport hother]
  · simp [exec, execClaimDroppedReport, State.whileUp_up hup, State.ignoresReport hother]
  · have hrecord := s.entry_untiered t h (some (startTimer s.cfg.admitWait)) .claimDone
      (new := .awaiting) (by decide) rfl (by decide)
    have hhome : (s.changeState t h .awaiting (some (startTimer s.cfg.admitWait)) .claimDone).home t h =
        { record := (s.record t h).untiered .awaiting (some (max s.cfg.admitWait 1))
          reportSlot := none, trimHold := none, usage := (s.home t h).usage } := by
      rw [State.changeState_home, show max s.cfg.admitWait 1 = startTimer s.cfg.admitWait from rfl,
        ← hrecord]
      rfl
    refine ⟨(s.changeState t h .awaiting (some (startTimer s.cfg.admitWait)) .claimDone).postFound t h,
      ?_, ?_, ?_, ?_, ?_, ?_, ?_, ?_⟩
    · simp [exec, execClaimWaitExpiry, State.whileUp_up hup, State.expired_of hstate htimer]
    · simpa [State.postFound] using hhome
    · simp [State.postFound]
    · simp [State.postFound]
    · simpa [State.postFound, State.changeState_light] using
        Light.afterNotice_same _ _ _ (by decide) (by decide) (by decide) (by simp)
    · simp [State.postFound, State.changeState_serialIndex]
    · exact (s.changeState_onlyHome t h _ _ _).trans (State.post_onlyHome _ _ _ _ t h)
    · have hfound : (s.changeState t h .awaiting (some (startTimer s.cfg.admitWait))
          .claimDone).record t h = (s.record t h).untiered .awaiting (some (max s.cfg.admitWait 1)) := by
        rw [State.record, hhome]
      simp only [State.postFound, hfound]
      exact State.sameTraffic_post (s.changeState_sameTraffic t h _ _ _ (by decide)) _ _ _

/-! ### Messages posted before a change of a record -/

section posts
variable {s a u : State} {t : TreeId} {h : HomeIdx} {r : HomeRecord} {cause : Cause} {w : ControlWord}

theorem State.onlyPosts.tree (hp : s.onlyPosts a) (v : TreeId) : a.tree v = s.tree v := by
  rw [State.tree, State.tree, hp.2.1]

theorem State.onlyPosts.home (hp : s.onlyPosts a) (v : TreeId) (k : HomeIdx) :
    a.home v k = s.home v k := by
  rw [State.home, State.home, hp.tree]

theorem State.onlyPosts.record (hp : s.onlyPosts a) (v : TreeId) (k : HomeIdx) :
    a.record v k = s.record v k := by
  rw [State.record, State.record, hp.home]

theorem State.onlyPosts.cfg (hp : s.onlyPosts a) : a.cfg = s.cfg := by
  obtain ⟨⟨_, ⟨_, _, _, hsettings, _⟩, _⟩, _⟩ := hp
  rw [State.cfg, State.cfg, hsettings]

theorem State.onlyPosts.onlyHome (hp : s.onlyPosts a) (t : TreeId) (h : HomeIdx) : s.onlyHome a t h :=
  State.onlyHome_of_trees t h hp.1 hp.2.1

theorem State.recordOnly.rebase (hf : a.recordOnly u t h r) (hp : s.onlyPosts a) :
    s.recordOnly u t h r := by
  obtain ⟨hhome, hmeter, htx, hlight, hindex, honly⟩ := hf
  have ⟨_, _, hserials, htables⟩ := hp
  exact ⟨by rw [hhome, hp.home], hmeter.trans htables, by rw [htx, hp.tree], by rw [hlight, hp.tree],
    hindex.trans hserials, (hp.onlyHome t h).trans honly⟩

theorem State.entered.rebase (hf : a.entered u t h r cause w) (hp : s.onlyPosts a) :
    s.entered u t h r cause w := by
  obtain ⟨hhome, hmeter, htx, hlight, hindex, honly⟩ := hf
  have ⟨_, _, hserials, htables⟩ := hp
  exact ⟨by rw [hhome, hp.home], hmeter.trans htables, by rw [htx, hp.tree],
    by rw [hlight, hp.tree, hp.record], hindex.trans hserials, (hp.onlyHome t h).trans honly⟩

end posts

/-! ### A peer's CLAIM and OBJECT (R75 to R77) -/

/-- The barring of a CLAIMING record by a peer, and the traffic that it makes (R77). -/
theorem State.barByPeer_entered (s : State) (t : TreeId) (h : HomeIdx) (peer : Nat) :
    s.entered (s.barByPeer t h peer) t h
        ((s.record t h).untiered .barred (some (max s.cfg.barHold 1))) .barredByPeer (.darken h)
      ∧ (s.post .enrolment 31 (.clone
          { serial := (s.record t h).serial.getD 0, tree := t, home := h, state := .barred
            contested := (s.record t h).contested.getD 0, source := .objected
            replyTree := 0, rtt := 0, level := 0, peer := peer })).sameTraffic
          (s.barByPeer t h peer) := by
  have hentered := s.entered_untiered t h (some (startTimer s.cfg.barHold)) (.darken h)
    (cause := .barredByPeer) (new := .barred) (by decide) rfl (by decide) (by decide)
  refine ⟨hentered.post _ _ _, ?_⟩
  have hrecord : ((s.changeState t h .barred (some (startTimer s.cfg.barHold)) .barredByPeer).queueWord
      t (.darken h)).record t h = (s.record t h).untiered .barred (some (startTimer s.cfg.barHold)) := by
    rw [State.record, hentered.1]
  simp only [State.barByPeer, State.postClone, hrecord]
  exact State.sameTraffic_post (s.changeState_queueWord_sameTraffic t h _ _ _ (by decide)) _ _ _

theorem exec_claimReceived {s : State} {peer : Nat} (serial : Serial) (tree index : Nat)
    (hup : s.inReset = none) (hhears : s.hearsPeer peer = true) :
    exec (.claimReceived peer serial tree index) s = .next
      (match s.lookup serial with
       | some (t, h) =>
         (s.take (.claimReceived peer serial tree index)).answerClaim peer serial tree index t h
       | none => s.take (.claimReceived peer serial tree index)) := by
  cases hlookup : s.lookup serial <;>
    simp only [exec, execClaimReceived, State.whileUp_up hup, hhears, State.take_lookup, if_true,
      hlookup]

theorem exec_objectReceived {s : State} {peer : Nat} (serial : Serial) (tree index : Nat)
    (hup : s.inReset = none) (hhears : s.hearsPeer peer = true) :
    exec (.objectReceived peer serial tree index) s = .next
      (match s.lookup serial with
       | some (t, h) => (s.take (.objectReceived peer serial tree index)).answerObject peer t h
       | none => s.take (.objectReceived peer serial tree index)) := by
  cases hlookup : s.lookup serial <;>
    simp only [exec, execObjectReceived, State.whileUp_up hup, hhears, State.take_lookup, if_true,
      hlookup]

/-- Settles O7: a CLAIM goes by the state of the record that holds its serial. -/
theorem peerClaimIsAnswered : Obligations.PeerClaimIsAnswered := by
  intro s peer serial tree index hup hhears c objected
  have hexec : exec c s = _ := exec_claimReceived serial tree index hup hhears
  rw [hexec]
  refine ⟨fun hnone => by rw [hnone], ?_⟩
  intro t h hfound r
  rw [hfound]
  have hobjected : s.onlyPosts objected := State.post_onlyPosts (s.take c) _ _ _
  refine ⟨fun hstate => ⟨objected.contest t h, ?_, ?_, ⟨rfl, rfl, rfl⟩⟩, fun hstate => ?_,
    fun hstate => ?_, fun hstate => ?_⟩
  · rcases hstate with hstate | hstate | hstate <;>
      simp [State.answerClaim, State.objectTo, r, objected, c] at hstate ⊢ <;> rw [hstate]
  · have honly := (objected.recordOnly_modRecord t h (fun r =>
      { r with contested := r.contested.map (fun n => min (n + 1) Config.contestedMax) })).rebase hobjected
    rwa [hobjected.record] at honly
  · refine ⟨objected.barByPeer t h peer, ?_, ?_, ?_⟩
    · simp [State.answerClaim, State.objectTo, r, objected, c] at hstate ⊢; rw [hstate]
    · have hentered := (objected.barByPeer_entered t h peer).1.rebase hobjected
      rwa [hobjected.record, hobjected.cfg] at hentered
    · simpa [hobjected.record] using (objected.barByPeer_entered t h peer).2
  · refine ⟨(s.take c).departWithDismiss t h .yielded .yielded, ?_,
      (State.freed_departWithDismiss _ t h _ _ (by decide) (by simp)).untake,
      State.departWithDismiss_sameTraffic _ t h _ _ (by decide)⟩
    simp [State.answerClaim, r, c] at hstate ⊢; rw [hstate]
  · simp [State.answerClaim, State.objectTo, r, objected, c] at hstate ⊢; rw [hstate]

/-- Settles O8: an OBJECT goes by the state of the record that holds its serial. -/
theorem objectionIsTaken : Obligations.ObjectionIsTaken := by
  intro s peer serial tree index hup hhears c
  have hexec : exec c s = _ := exec_objectReceived serial tree index hup hhears
  rw [hexec]
  refine ⟨fun hnone => by rw [hnone], ?_⟩
  intro t h hfound r notice
  rw [hfound]
  refine ⟨fun hstate => ⟨(s.take c).barByPeer t h peer, ?_,
      ((s.take c).barByPeer_entered t h peer).1.untake, ((s.take c).barByPeer_entered t h peer).2⟩,
    fun hstate => ⟨((s.take c).contest t h).postClone t h .lateObjection 0 0 0 peer, ?_, ?_, ?_⟩,
    fun hstate => ?_⟩
  · simp [State.answerObject, r, c] at hstate ⊢; rw [hstate]
  · rcases hstate with hstate | hstate <;>
      simp [State.answerObject, r, c] at hstate ⊢ <;> rw [hstate]
  · exact ((State.recordOnly_modRecord (s.take c) t h
      (fun r => { r with contested := r.contested.map (fun n => min (n + 1) Config.contestedMax) })).post
        _ _ _).untake
  · simp only [State.postClone, State.contest, State.record_modRecord_self]
    exact State.sameTraffic_post
      (State.sameTraffic_modRecord (State.sameTraffic_refl (s.take c)) t h _) _ _ _
  · rcases hstate with hstate | hstate | hstate <;>
      simp [State.answerObject, r, c] at hstate ⊢ <;> rw [hstate]

end Sys2Proof.Machine
end

section
/-! SUPPORT. Admission and the quota (chapters 4 and 8): the CR sum after a change of one record, what the
evaluation of a quota does; then the statement O4. -/

namespace Sys2Proof.Machine

/-! ### The CR sum (R78) -/

/-- What a record adds to the CR sum of its tree. -/
def State.crOf (s : State) (r : HomeRecord) : Nat := if isTiered r.state then (s.ratesOf r).cr else 0

theorem State.crSum_eq (s : State) (t : TreeId) :
    s.crSum t = ∑ h : HomeIdx, s.crOf (s.record t h) := by
  rw [Fin.sum_univ_def, State.crSum, State.records, List.map_map]
  rfl

theorem State.crOf_congr {s u : State} (hcfg : u.cfg = s.cfg) (r : HomeRecord) :
    u.crOf r = s.crOf r := by
  simp [State.crOf, State.ratesOf, State.rates, hcfg]

/-- One record changed: the CR sum loses what it added and gains what it adds. -/
theorem State.crSum_change {s u : State} {t : TreeId} {h : HomeIdx} (hcfg : u.cfg = s.cfg)
    (hothers : ∀ k, k ≠ h → u.record t k = s.record t k) :
    u.crSum t + s.crOf (s.record t h) = s.crSum t + s.crOf (u.record t h) := by
  have hrest : ∑ k ∈ Finset.univ.erase h, u.crOf (u.record t k)
      = ∑ k ∈ Finset.univ.erase h, s.crOf (s.record t k) :=
    Finset.sum_congr rfl fun k hk => by
      rw [hothers k (Finset.ne_of_mem_erase hk), State.crOf_congr hcfg]
  rw [State.crSum_eq, State.crSum_eq, ← Finset.add_sum_erase _ _ (Finset.mem_univ h),
    ← Finset.add_sum_erase _ (fun k => s.crOf (s.record t k)) (Finset.mem_univ h), hrest,
    State.crOf_congr hcfg]
  omega

/-! ### The frame of one home -/

theorem State.onlyHome.cfg {s u : State} {t : TreeId} {h : HomeIdx} (hf : s.onlyHome u t h) :
    u.cfg = s.cfg := by
  obtain ⟨⟨_, ⟨_, _, _, hsettings, _⟩, _⟩, _⟩ := hf
  rw [State.cfg, State.cfg, hsettings]

theorem State.onlyHome.record {s u : State} {t : TreeId} {h k : HomeIdx} (hf : s.onlyHome u t h)
    (hk : k ≠ h) : u.record t k = s.record t k := by
  rw [State.record, State.record, hf.2.2.2 k hk]

/-! ### The quota (R151 to R153) -/

section quota
variable (s : State) (t : TreeId) (h : HomeIdx)

/-- A throttle that is set does not move the total or the quota. -/
theorem State.quotaReached_modRecord (f : HomeRecord → HomeRecord)
    (hquota : (f (s.record t h)).quota = (s.record t h).quota) :
    (s.modRecord t h f).quotaReached t h = s.quotaReached t h := by
  have htotal : (s.modRecord t h f).quotaTotal t h = s.quotaTotal t h := by
    simp [State.quotaTotal, State.modRecord]
  simp [State.quotaReached, htotal, hquota]

@[simp] theorem State.post_quotaTotal (p : Block) (d : Nat) (m : Msg) :
    (s.post p d m).quotaTotal t h = s.quotaTotal t h := by
  simp [State.quotaTotal]

@[simp] theorem State.post_quotaReached (p : Block) (d : Nat) (m : Msg) :
    (s.post p d m).quotaReached t h = s.quotaReached t h := by
  simp [State.quotaReached]

theorem State.evaluateQuota_quotaReached :
    (s.evaluateQuota t h).quotaReached t h = s.quotaReached t h := by
  unfold State.evaluateQuota
  split
  · rw [State.post_quotaReached, State.quotaReached_modRecord]
    rfl
  · rfl

/-- A quota that is reached leaves the throttle set (R151). -/
theorem State.evaluateQuota_home : (s.evaluateQuota t h).home t h =
    { s.home t h with record := { s.record t h with
        throttled := if s.quotaReached t h then (s.record t h).throttled.map (fun _ => true)
          else (s.record t h).throttled } } := by
  unfold State.evaluateQuota
  cases hreached : s.quotaReached t h <;>
    rcases hthrottled : (s.record t h).throttled with _ | _ | _ <;>
    simp [State.modRecord, State.record] at hthrottled ⊢ <;>
    rw [← hthrottled]

/-- The QUOTA notice goes out where the evaluation sets the throttle (R152). -/
theorem State.evaluateQuota_sameTraffic :
    (if s.quotaReached t h && decide ((s.record t h).throttled = some false) then
      s.post .meter 31 (.quota (s.quotaNotice t h)) else s).sameTraffic (s.evaluateQuota t h) := by
  unfold State.evaluateQuota
  split
  · exact State.sameTraffic_post
      (State.sameTraffic_modRecord s.sameTraffic_refl t h _) .meter 31 _
  · exact s.sameTraffic_refl

/-- The evaluation of a quota changes the trees and posts. -/
theorem State.evaluateQuota_tree : (s.evaluateQuota t h).tree t =
    { s.tree t with homes := ((s.evaluateQuota t h).tree t).homes } := by
  unfold State.evaluateQuota
  split
  · simp [State.tree_modRecord_self, Tree.modHome]
  · rfl

@[simp] theorem State.evaluateQuota_meter : (s.evaluateQuota t h).meter = s.meter := by
  unfold State.evaluateQuota
  split <;> simp

@[simp] theorem State.evaluateQuota_serialIndex :
    (s.evaluateQuota t h).serialIndex = s.serialIndex := by
  unfold State.evaluateQuota
  split <;> simp

theorem State.reviewQuota_of_reached (hreached : s.quotaReached t h = true) :
    s.reviewQuota t h = s.evaluateQuota t h := by
  simp [State.reviewQuota, State.clearThrottle, State.evaluateQuota_quotaReached, hreached]

theorem State.reviewQuota_of_not_reached (hreached : s.quotaReached t h = false) :
    s.reviewQuota t h =
      s.modRecord t h (fun r => { r with throttled := r.throttled.map (fun _ => false) }) := by
  simp [State.reviewQuota, State.clearThrottle, State.evaluateQuota_of_not_reached, hreached]

/-- A look at the quota leaves the throttle as the total says (R151, R153). -/
theorem State.reviewQuota_home : (s.reviewQuota t h).home t h =
    { s.home t h with record := { s.record t h with
        throttled := (s.record t h).throttled.map (fun _ => s.quotaReached t h) } } := by
  cases hreached : s.quotaReached t h
  · rw [s.reviewQuota_of_not_reached t h hreached]
    simp [State.modRecord, State.record]
  · rw [s.reviewQuota_of_reached t h hreached, State.evaluateQuota_home, hreached]
    simp

theorem State.reviewQuota_sameTraffic :
    (if s.quotaReached t h && decide ((s.record t h).throttled = some false) then
      s.post .meter 31 (.quota (s.quotaNotice t h)) else s).sameTraffic (s.reviewQuota t h) := by
  cases hreached : s.quotaReached t h
  · rw [s.reviewQuota_of_not_reached t h hreached]
    exact State.sameTraffic_modRecord s.sameTraffic_refl t h _
  · rw [s.reviewQuota_of_reached t h hreached]
    simpa only [hreached] using s.evaluateQuota_sameTraffic t h

theorem State.reviewQuota_tree : (s.reviewQuota t h).tree t =
    { s.tree t with homes := ((s.reviewQuota t h).tree t).homes } := by
  cases hreached : s.quotaReached t h
  · rw [s.reviewQuota_of_not_reached t h hreached, State.tree_modRecord_self]
    rfl
  · rw [s.reviewQuota_of_reached t h hreached]
    exact s.evaluateQuota_tree t h

@[simp] theorem State.reviewQuota_meter : (s.reviewQuota t h).meter = s.meter := by
  cases hreached : s.quotaReached t h
  · rw [s.reviewQuota_of_not_reached t h hreached]; rfl
  · rw [s.reviewQuota_of_reached t h hreached]; simp

@[simp] theorem State.reviewQuota_serialIndex : (s.reviewQuota t h).serialIndex = s.serialIndex := by
  cases hreached : s.quotaReached t h
  · rw [s.reviewQuota_of_not_reached t h hreached]; rfl
  · rw [s.reviewQuota_of_reached t h hreached]; simp

end quota

/-! ### ADMIT (R79, R80) -/

section admitting
variable (s : State) (t : TreeId) (h : HomeIdx) (tier : Fin 8) (quota : Nat)

/-- An admission makes an ACTIVE record with the tier and quota named, and a usage entry (R79, R145). -/
theorem State.admitHome_home : (s.admitHome t h tier quota).home t h =
    { record := { (s.record t h).activated with
        tier := some tier, quota := some quota, throttled := some false, relapses := some 0 }
      reportSlot := none, trimHold := none, usage := some newUsage } := by
  unfold State.admitHome
  rw [State.changeState_home]
  simp [Home.changed, HomeRecord.noticed, HomeRecord.enter, HomeRecord.activated, keepIf, isTiered,
    relapsesAfter, darkAfterNotice, State.modRecord, State.record]

theorem State.admitHome_onlyHome : s.onlyHome (s.admitHome t h tier quota) t h :=
  (s.modRecord_onlyHome t h _).trans (State.changeState_onlyHome _ t h _ _ _)

theorem State.admitHome_tree_tx_light :
    ((s.admitHome t h tier quota).tree t).tx = (s.tree t).tx
      ∧ ((s.admitHome t h tier quota).tree t).light = (s.tree t).light := by
  unfold State.admitHome
  rw [State.changeState_tx, State.changeState_light,
    Light.afterNotice_same _ _ _ (by decide) (by decide) (by decide) (by simp),
    State.tree_modRecord_self]
  exact ⟨rfl, rfl⟩

theorem State.admitHome_sameTraffic : s.sameTraffic (s.admitHome t h tier quota) :=
  (State.sameTraffic_modRecord s.sameTraffic_refl t h _).trans
    (State.changeState_sameTraffic _ t h _ _ _ (by decide))

theorem State.admitHome_crSum (hstate : (s.record t h).state = .awaiting) :
    (s.admitHome t h tier quota).crSum t = s.crSum t + (s.rates tier).cr := by
  have honly := s.admitHome_onlyHome t h tier quota
  have hchange := State.crSum_change honly.cfg fun k hk => honly.record hk
  have hrecord : (s.admitHome t h tier quota).record t h = { (s.record t h).activated with
      tier := some tier, quota := some quota, throttled := some false, relapses := some 0 } := by
    rw [State.record, State.admitHome_home]
  rw [hrecord] at hchange
  simpa [State.crOf, hstate, isTiered, HomeRecord.activated, State.ratesOf] using hchange

/-- The quota notice of a record, by its fields. -/
theorem State.quotaNotice_eq : s.quotaNotice t h =
    { serial := (s.record t h).serial.getD 0, tree := t, home := h
      generation := (s.record t h).generation
      interval := ((s.home t h).usage.map (·.interval)).getD 0
      quota := (s.record t h).quota.getD 0, total := s.quotaTotal t h, round := s.round } := by
  unfold State.quotaNotice
  cases (s.home t h).usage <;> rfl

end admitting

@[simp] theorem State.post_crSum (s : State) (p : Block) (d : Nat) (m : Msg) (t : TreeId) :
    (s.post p d m).crSum t = s.crSum t := by
  simp [State.crSum_eq, State.crOf, State.ratesOf, State.rates]

/-- Settles O4: an AWAITING record is admitted, and a tiered one has its quota looked at under its new tier
and quota. -/
theorem admitSetsTierAndQuota : Obligations.AdmitSetsTierAndQuota := by
  refine ⟨fun s sender serial tier quota t h hup hobeys hfound hstate hroom => ?_,
    fun s sender serial tier quota t h hup hobeys hfound htiered hroom => ?_⟩
  · obtain ⟨htx, hlight⟩ :=
      (s.take (.admission sender serial tier quota)).admitHome_tree_tx_light t h tier quota
    refine ⟨((s.take (.admission sender serial tier quota)).admitHome t h tier quota).acceptAdmit
      sender serial, ?_, ?_, ?_, ?_, ?_, ?_, ?_, ?_, ?_⟩
    · rw [exec_admission tier quota hup hobeys hfound]
      simp [State.admitAt, hstate, hroom]
    · simpa [State.acceptAdmit, newUsage, Counters.zero, Count.zero] using
        (s.take (.admission sender serial tier quota)).admitHome_home t h tier quota
    · simpa [State.acceptAdmit] using
        (s.take (.admission sender serial tier quota)).admitHome_crSum t h tier quota hstate
    · simp [State.acceptAdmit, State.admitHome]
    · simpa [State.acceptAdmit] using htx
    · simpa [State.acceptAdmit] using hlight
    · simp [State.acceptAdmit, State.admitHome, State.changeState_serialIndex]
    · exact State.sameTraffic_post (State.admitHome_sameTraffic _ t h tier quota) _ _ _
    · exact ((s.take_onlyHome t h _).trans (State.admitHome_onlyHome _ t h tier quota)).trans
        (State.post_onlyHome _ _ _ _ t h)
  · intro c reached notice
    let named := (s.take c).modRecord t h (fun r => { r with tier := some tier, quota := some quota })
    have hrecord : named.record t h
        = { s.record t h with tier := some tier, quota := some quota } := by
      simp [named]
    have htotal : named.quotaTotal t h = s.quotaTotal t h := by
      simp [State.quotaTotal, named, State.modRecord]
    have hreached : named.quotaReached t h = reached := by
      simp [State.quotaReached, hrecord, htotal, reached]
    have hnotice : named.quotaNotice t h = notice := by
      rw [State.quotaNotice_eq, hrecord, htotal]
      simp [notice, named, State.modRecord]
    have htree := named.reviewQuota_tree t h
    refine ⟨(named.reviewQuota t h).acceptAdmit sender serial, ?_, ?_, ?_, ?_, ?_, ?_, ?_, ?_⟩
    · rw [show exec c s = _ from exec_admission tier quota hup hobeys hfound]
      cases hstate : (s.record t h).state <;> simp_all [isTiered] <;>
        simp [State.admitAt, hstate, hroom, State.changeTier, named, c]
    · simp only [State.acceptAdmit, State.post_home, State.reviewQuota_home, hrecord, hreached]
      simp [named, State.modRecord]
    · simp [State.acceptAdmit, named]
    · simp only [State.acceptAdmit, State.post_tree]
      rw [htree]
      simp [named, State.tree_modRecord_self]
    · simp only [State.acceptAdmit, State.post_tree]
      rw [htree]
      simp [named, State.tree_modRecord_self]
    · simp [State.acceptAdmit, named]
    · have htraffic := named.reviewQuota_sameTraffic t h
      rw [hreached, hnotice, hrecord] at htraffic
      refine State.sameTraffic_post (State.sameTraffic.trans ?_ htraffic) _ _ _
      show State.sameTraffic (if reached && decide ((s.record t h).throttled = some false) then _
        else _) _
      split
      · exact State.sameTraffic_post (State.sameTraffic_modRecord (State.sameTraffic_refl _) t h _) _ _ _
      · exact State.sameTraffic_modRecord (State.sameTraffic_refl _) t h _
    · exact (((s.take_onlyHome t h _).trans (State.modRecord_onlyHome _ t h _)).trans
        (State.reviewQuota_onlyHome named t h)).trans (State.post_onlyHome _ _ _ _ t h)

end Sys2Proof.Machine
end

section
/-! SUPPORT. Discovery replies (chapter 4): what a read reply hands to the Controller, the record that an
enrolment allocates; then the statements O9 to O12. -/

namespace Sys2Proof.Machine

/-! ### Entries posted -/

section postEntry
variable (s : State) (e : TxEntry)

@[simp] theorem State.postEntry_tree (u : TreeId) : (s.postEntry e).tree u = s.tree u := by
  simp [State.tree]

@[simp] theorem State.postEntry_home (u : TreeId) (h : HomeIdx) :
    (s.postEntry e).home u h = s.home u h := by
  simp [State.home]

theorem State.postEntry_onlyHome (u : TreeId) (h : HomeIdx) : s.onlyHome (s.postEntry e) u h :=
  State.onlyHome_of_trees u h (s.postEntry_sameChip e) (s.postEntry_trees e)

end postEntry

/-! ### The window read on -/

section readTo
variable (s : State) (t : TreeId) (w : Window)

@[simp] theorem State.tree_readTo_self : (s.readTo t w).tree t =
    { s.tree t with rx := { (s.tree t).rx with window := some w } } := State.tree_modTree_self _ _ _

@[simp] theorem State.tree_readTo_other (v : TreeId) (hv : v ≠ t) :
    (s.readTo t w).tree v = s.tree v := State.tree_modTree_other _ _ _ _ hv

@[simp] theorem State.home_readTo (v : TreeId) (k : HomeIdx) :
    (s.readTo t w).home v k = s.home v k := by
  by_cases hv : v = t
  · subst hv; simp [State.home, Tree.home]
  · simp [State.home, hv]

@[simp] theorem State.record_readTo (v : TreeId) (k : HomeIdx) :
    (s.readTo t w).record v k = s.record v k := by
  simp [State.record]

@[simp] theorem State.readTo_cfg : (s.readTo t w).cfg = s.cfg := rfl
@[simp] theorem State.readTo_lookup (serial : Serial) : (s.readTo t w).lookup serial = s.lookup serial := rfl
@[simp] theorem State.readTo_meter : (s.readTo t w).meter = s.meter := rfl
@[simp] theorem State.readTo_serialIndex : (s.readTo t w).serialIndex = s.serialIndex := rfl

@[simp] theorem State.readTo_lowestFree (v : TreeId) : (s.readTo t w).lowestFree v = s.lowestFree v := by
  simp [State.lowestFree]

theorem State.readTo_sameTraffic : s.sameTraffic (s.readTo t w) := ⟨rfl, rfl, rfl⟩

end readTo

section reads
variable {s : State} {t : TreeId} {light : ReplyLight} {w w' : Window}

/-- A DISCOVERY_REPLY in an open discovery window reads on, and hands on the reply that it reads. -/
theorem exec_discoveryReply_some {reply : ReplyRecord} (hup : s.inReset = none)
    (hwindow : (s.tree t).rx.window = some w) (hcall : w.plan.call = true)
    (hread : readOn s.cfg.litLevel t w light = (w', some reply)) :
    exec (.discoveryReply t light) s = .next ((s.readTo t w').takeReply reply) := by
  simp only [exec, execDiscoveryReply, State.whileUp_up hup, hwindow, hcall, hread, if_true]
  rfl

theorem exec_discoveryReply_none (hup : s.inReset = none)
    (hwindow : (s.tree t).rx.window = some w) (hcall : w.plan.call = true)
    (hread : readOn s.cfg.litLevel t w light = (w', none)) :
    exec (.discoveryReply t light) s = .next (s.readTo t w') := by
  simp only [exec, execDiscoveryReply, State.whileUp_up hup, hwindow, hcall, hread, if_true]
  rfl

end reads

/-! ### The reply counters (R85) -/

/-- A change of a tree by either of two functions that agree on it is the same. -/
theorem State.modTree_congr {s : State} {t : TreeId} {f g : Tree → Tree}
    (hfg : f (s.tree t) = g (s.tree t)) : s.modTree t f = s.modTree t g := by
  unfold State.modTree
  rw [hfg]

/-- A reply counter that moves after the window was read on is the tree's own counter. -/
theorem State.modFigures_readTo (s : State) (t : TreeId) (w : Window)
    (f : EnrolFigures → EnrolFigures) :
    (s.readTo t w).modFigures t f = (s.readTo t w).counted t (f (s.tree t).enrol) :=
  State.modTree_congr (by simp)

/-- A reply in range, within its level bounds, is accepted (R66, R67). -/
theorem State.takeReply_accepted {s : State} {t : TreeId} {round delay offset : Nat} {serial : Serial}
    {level : Int} (hlow : 8 * delay ≤ offset) (hhigh : offset ≤ 8 * delay + 12800)
    (hmin : s.cfg.levelMin ≤ level) (hmax : level ≤ s.cfg.levelMax) :
    s.takeReply (.valid round t serial delay offset level)
      = s.acceptReply t serial (offset - 8 * delay) level := by
  have htrip : roundTrip offset delay = ((offset - 8 * delay : Nat) : Int) := by
    simp only [roundTrip, Config.blockSteps]; omega
  simp only [State.takeReply, htrip, Int.toNat_natCast]
  rw [if_neg, if_neg (by omega)]
  simp only [Config.referenceTrip]; omega

/-- Settles O9: a reply that brings no home moves the window and one counter. -/
theorem badRepliesAreCountedAndIgnored : Obligations.BadRepliesAreCountedAndIgnored := by
  intro s t light w w' hup hwindow hcall c e
  refine ⟨fun hread => exec_discoveryReply_none hup hwindow hcall hread, fun hread => ?_,
    fun serial delay offset level hread => ⟨fun hrange => ?_, fun hlow hhigh hlevel => ?_⟩⟩ <;>
    rw [show exec c s = _ from exec_discoveryReply_some hup hwindow hcall hread]
  · exact congrArg _ (s.modFigures_readTo t w' (fun e => { e with garbled := bump e.garbled }))
  · have hout : roundTrip offset delay < 0 ∨ (Config.referenceTrip : Int) < roundTrip offset delay := by
      simp only [roundTrip, Config.blockSteps, Config.referenceTrip]; omega
    exact congrArg _ ((if_pos hout).trans
      (s.modFigures_readTo t w' (fun e => { e with rangeBad := bump e.rangeBad })))
  · have hin : ¬ (roundTrip offset delay < 0
        ∨ (Config.referenceTrip : Int) < roundTrip offset delay) := by
      simp only [roundTrip, Config.blockSteps, Config.referenceTrip]; omega
    exact congrArg _ ((if_neg hin).trans ((if_pos hlevel).trans
      (s.modFigures_readTo t w' (fun e => { e with levelBad := bump e.levelBad }))))

/-! ### The lowest FREE record (R29) -/

/-- In an ascending list the first entry with a property is the least one. -/
theorem find?_eq_some_of_least {n : Nat} {p : Fin n → Bool} {a : Fin n} :
    ∀ {l : List (Fin n)}, l.Pairwise (· < ·) → a ∈ l → p a = true → (∀ b < a, p b = false) →
      l.find? p = some a
  | [], _, hmem, _, _ => absurd hmem List.not_mem_nil
  | b :: l, hsorted, hmem, hpa, hleast => by
    obtain ⟨hhead, htail⟩ := List.pairwise_cons.mp hsorted
    rcases List.mem_cons.mp hmem with rfl | hmem
    · exact List.find?_cons_of_pos hpa
    · rw [List.find?_cons_of_neg (by simp [hleast b (hhead a hmem)])]
      exact find?_eq_some_of_least htail hmem hpa hleast

theorem allHomes_sorted : allHomes.Pairwise (· < ·) := List.pairwise_lt_finRange 128

theorem mem_allHomes (h : HomeIdx) : h ∈ allHomes := List.mem_finRange h

theorem State.lowestFree_eq_some {s : State} {t : TreeId} {h : HomeIdx}
    (hfree : (s.record t h).state = .free) (hleast : ∀ k < h, (s.record t k).state ≠ .free) :
    s.lowestFree t = some h :=
  find?_eq_some_of_least allHomes_sorted (mem_allHomes h) (by simpa using hfree)
    fun k hk => by simpa using hleast k hk

theorem State.lowestFree_eq_none {s : State} {t : TreeId}
    (hnone : ∀ k, (s.record t k).state ≠ .free) : s.lowestFree t = none :=
  List.find?_eq_none.mpr fun k _ => by simpa using hnone k

/-! ### A new enrolment (R29, R69) -/

section enrol
variable (s : State) (t : TreeId) (h : HomeIdx) (serial : Serial) (rtt : Nat) (level : Int)

/-- The home of a record just allocated: CLAIMING, with the figures of the reply and nothing else. -/
def State.allocated (s : State) (t : TreeId) (h : HomeIdx) (serial : Serial) (rtt : Nat) (level : Int) :
    Home :=
  { record := { HomeRecord.reset with
      state := .claiming, serial := some serial
      generation := ((s.record t h).generation + 1) % 65536
      rtt := some rtt, eqd := some (12800 - rtt)
      enrolLevel := some level, lastLevel := some level, contested := some 0
      testDark := (s.record t h).testDark }
    reportSlot := none, trimHold := none, usage := (s.home t h).usage }

theorem State.allocate_home :
    (s.allocate t h serial rtt level).home t h = s.allocated t h serial rtt level := by
  unfold State.allocate
  rw [State.changeState_home]
  simp [Home.changed, HomeRecord.noticed, HomeRecord.enter, keepIf, isTiered, relapsesAfter,
    darkAfterNotice, State.modRecord, State.record, State.allocated, HomeRecord.ranged,
    HomeRecord.reset, Config.generationWrap, Config.referenceTrip]

theorem State.allocate_onlyHome : s.onlyHome (s.allocate t h serial rtt level) t h :=
  ((s.modRecord_onlyHome t h _).trans (State.indexSerial_onlyHome _ t h _ _ _)).trans
    (State.changeState_onlyHome _ t h _ _ _)

theorem State.allocate_sameTraffic : s.sameTraffic (s.allocate t h serial rtt level) :=
  State.sameTraffic.trans (b := (s.modRecord t h _).indexSerial serial t h) ⟨rfl, rfl, rfl⟩
    (State.changeState_sameTraffic _ t h _ _ _ (by decide))

theorem State.queueDelay_eq : s.queueDelay t h = s.queueWord t
    (.setDelay h ((s.record t h).serial.getD 0) ((s.record t h).eqd.getD 0)) := rfl

/-- What an enrolment leaves, seen at its home, its tree and the tables, and what it posts (R69). -/
theorem State.enrolAt_spec :
    let u := s.enrolAt t h serial rtt level
    u.home t h = s.allocated t h serial rtt level
      ∧ (u.tree t).tx = ((s.tree t).tx.push (.setDelay h serial (12800 - rtt))).1
      ∧ u.serialIndex = s.serialIndex ++ [⟨serial, t, h⟩]
      ∧ u.meter = s.meter ∧ (u.tree t).light = (s.tree t).light
      ∧ (s.postClaim ⟨t, h, ((s.record t h).generation + 1) % 65536⟩ serial).sameTraffic u
      ∧ s.onlyHome u t h := by
  have hhome := s.allocate_home t h serial rtt level
  have hrecord : (s.allocate t h serial rtt level).record t h
      = (s.allocated t h serial rtt level).record := by rw [State.record, hhome]
  have hqueued : (s.allocate t h serial rtt level).queueDelay t h
      = (s.allocate t h serial rtt level).queueWord t (.setDelay h serial (12800 - rtt)) := by
    rw [State.queueDelay_eq, hrecord]; rfl
  have hgeneration : ((s.allocated t h serial rtt level).record).generation
      = ((s.record t h).generation + 1) % 65536 := rfl
  simp only [State.enrolAt, hqueued, State.record_queueWord, hrecord, hgeneration]
  refine ⟨?_, ?_, ?_, ?_, ?_, ?_, ?_⟩
  · simpa [State.postClaim] using hhome
  · simp [State.postClaim, State.allocate, State.tree_modRecord_self]
  · simp [State.postClaim, State.allocate, State.changeState_serialIndex, State.indexSerial]
  · simp [State.postClaim, State.allocate]
  · simpa [State.postClaim, State.allocate, State.changeState_light, State.tree_modRecord_self] using
      Light.afterNotice_same _ _ _ (by decide) (by decide) (by decide) (by simp)
  · exact State.sameTraffic_postEntry
      (State.sameTraffic_queueWord (s.allocate_sameTraffic t h serial rtt level) t _) _
  · exact ((s.allocate_onlyHome t h serial rtt level).trans (State.queueWord_onlyHome _ t h _)).trans
      (State.postEntry_onlyHome _ _ t h)

end enrol

theorem State.countTableFull_readTo (s : State) (t : TreeId) (w : Window) :
    (s.readTo t w).countTableFull t = (s.readTo t w).counted t { (s.tree t).enrol with
      tableFull := min ((s.tree t).enrol.tableFull + 1) 4294967295 } :=
  s.modFigures_readTo t w _

/-- An accepted reply that is read goes by where its serial is held (R68). -/
theorem exec_discoveryReply_accepted {s : State} {t : TreeId} {light : ReplyLight} {w w' : Window}
    {round delay offset : Nat} {serial : Serial} {level : Int} (hup : s.inReset = none)
    (hwindow : (s.tree t).rx.window = some w) (hcall : w.plan.call = true)
    (hread : readOn s.cfg.litLevel t w light = (w', some (.valid round t serial delay offset level)))
    (hlow : 8 * delay ≤ offset) (hhigh : offset ≤ 8 * delay + 12800)
    (hmin : s.cfg.levelMin ≤ level) (hmax : level ≤ s.cfg.levelMax) :
    exec (.discoveryReply t light) s
      = .next ((s.readTo t w').acceptReply t serial (offset - 8 * delay) level) := by
  rw [exec_discoveryReply_some hup hwindow hcall hread,
    State.takeReply_accepted hlow hhigh (by simpa using hmin) (by simpa using hmax)]

/-- Settles O10: a serial held nowhere is enrolled on the lowest FREE record, or counted. -/
theorem newHomeIsEnrolled : Obligations.NewHomeIsEnrolled := by
  intro s t light w w' serial delay offset level hup hwindow hcall hread hlow hhigh hmin hmax hnowhere
    c rtt e
  have hexec : exec c s = .next ((s.readTo t w').enrolNew t serial rtt level) := by
    rw [show exec c s = _ from
      exec_discoveryReply_accepted hup hwindow hcall hread hlow hhigh hmin hmax]
    simp [State.acceptReply, hnowhere, rtt]
  rw [hexec]
  refine ⟨?_, fun hnone => ?_⟩
  · intro h hfree hleast generation
    obtain ⟨hhome, htx, hindex, hmeter, hlight, htraffic, honly⟩ :=
      (s.readTo t w').enrolAt_spec t h serial rtt level
    refine ⟨_, rfl, ?_⟩
    simp only [State.enrolNew, State.readTo_lowestFree, State.lowestFree_eq_some hfree hleast]
    exact ⟨by simpa [State.allocated] using hhome, by simpa using htx, by simpa using hindex,
      by simpa using hmeter, by simpa using hlight,
      (State.sameTraffic_postEntry (s.readTo_sameTraffic t w') _).trans
        (by rw [State.record_readTo] at htraffic; exact htraffic), honly⟩
  · simp only [State.enrolNew, State.readTo_lowestFree, State.lowestFree_eq_none hnone]
    exact congrArg _ (s.countTableFull_readTo t w')

/-! ### A serial held on the reply's tree (R68, R70, R71) -/

/-- A clone counts one contest and is told (R70). -/
theorem State.clone_spec (s : State) (t v : TreeId) (k : HomeIdx) (rtt : Nat) (level : Int) :
    let r := s.record v k
    let contested := r.contested.map (fun n => min (n + 1) 255)
    s.recordOnly (s.clone t v k rtt level) v k { r with contested := contested }
      ∧ (s.post .enrolment 31 (.clone
          { serial := r.serial.getD 0, tree := v, home := k, state := r.state
            contested := contested.getD 0, source := .reply
            replyTree := t, rtt := rtt, level := level, peer := 0 })).sameTraffic
          (s.clone t v k rtt level) := by
  refine ⟨(s.recordOnly_modRecord v k (fun r =>
    { r with contested := r.contested.map (fun n => min (n + 1) Config.contestedMax) })).post _ _ _, ?_⟩
  simp only [State.clone, State.contest, State.postClone, State.record_modRecord_self]
  exact State.sameTraffic_post (State.sameTraffic_modRecord s.sameTraffic_refl v k _) _ _ _

/-- A LOST home is re-enrolled ACTIVE, with the distance and the levels of the reply (R71). -/
theorem State.reenrol_spec (s : State) (t : TreeId) (h : HomeIdx) (rtt : Nat) (level : Int) :
    s.entered (s.reenrol t h rtt level) t h ((s.record t h).ranged rtt level).activated .reenrol
        (.setDelay h ((s.record t h).serial.getD 0) (12800 - rtt))
      ∧ s.sameTraffic (s.reenrol t h rtt level) := by
  have hentered := (s.modRecord t h (fun r => r.ranged rtt level)).entered_active t h
    (cause := .reenrol) (.setDelay h ((s.record t h).serial.getD 0) (12800 - rtt))
    (by decide) (by decide)
  have hqueued : s.reenrol t h rtt level
      = ((s.modRecord t h (fun r => r.ranged rtt level)).changeState t h .active none .reenrol).queueWord
          t (.setDelay h ((s.record t h).serial.getD 0) (12800 - rtt)) := by
    rw [State.reenrol, State.queueDelay_eq, State.record, State.changeState_home]
    simp [Home.changed, HomeRecord.noticed, HomeRecord.enter, keepIf, State.modRecord, State.record,
      HomeRecord.ranged, Config.referenceTrip]
  rw [hqueued]
  obtain ⟨hhome, hmeter, htx, hlight, hindex, honly⟩ := hentered
  refine ⟨⟨?_, hmeter, ?_, ?_, hindex, (s.modRecord_onlyHome t h _).trans honly⟩, ?_⟩
  · rw [hhome, State.record_modRecord_self, State.modRecord, State.home_modHome_self]
    rfl
  · rw [htx, State.tree_modRecord_self]
    rfl
  · simpa [State.tree_modRecord_self, HomeRecord.ranged] using hlight
  · exact (State.sameTraffic_modRecord s.sameTraffic_refl t h _).trans
      (State.changeState_queueWord_sameTraffic _ t h _ _ _ (by decide))

/-- Settles O11: the reply of a serial held on its tree goes by the state of the record. -/
theorem replyOfAHeldSerialOnItsTree : Obligations.ReplyOfAHeldSerialOnItsTree := by
  intro s t h light w w' serial delay offset level hup hwindow hcall hread hlow hhigh hmin hmax hfound
    c rtt r s' ranged delayWord
  have hexec : exec c s = .next (s'.acceptReply t serial rtt level) :=
    exec_discoveryReply_accepted hup hwindow hcall hread hlow hhigh hmin hmax
  have hfound' : s'.lookup serial = some (t, h) := hfound
  have hrecord : s'.record t h = r := s.record_readTo t w' t h
  rw [hexec]
  refine ⟨fun hstate => ?_, fun hstate => ?_, fun hstate => ?_, fun hstate => ?_⟩
  · obtain ⟨hentered, htraffic⟩ := s'.reenrol_spec t h rtt level
    rw [hrecord] at hentered
    refine ⟨_, ?_, hentered, (s.readTo_sameTraffic t w').trans htraffic⟩
    simp [State.acceptReply, hfound', hrecord, hstate]
  · have hrenew : s'.renewDelay t h rtt level
        = (s'.modRecord t h (fun _ => ranged)).queueWord t delayWord := by
      have hset : s'.modRecord t h (fun r => r.ranged rtt level)
          = s'.modRecord t h (fun _ => ranged) := by
        unfold State.modRecord State.modHome
        refine State.modTree_congr (Tree.modHome_congr _ _ ?_)
        have hhome : ((s'.tree t).home h).record = r := hrecord
        simp only [hhome]
        rfl
      rw [State.renewDelay, State.queueDelay_eq, hset, State.record_modRecord_self]
      rfl
    rw [← hrenew]
    rcases hstate with hstate | hstate <;> simp [State.acceptReply, hfound', hrecord, hstate]
  · intro contested
    obtain ⟨honly, htraffic⟩ := s'.clone_spec t t h rtt level
    rw [hrecord] at honly htraffic
    refine ⟨_, ?_, honly, (State.sameTraffic_post (s.readTo_sameTraffic t w') _ _ _).trans htraffic⟩
    rcases hstate with hstate | hstate <;> simp [State.acceptReply, hfound', hrecord, hstate]
  · simp [State.acceptReply, hfound', hrecord, hstate]

/-! ### A serial held on another tree (R68, R70, R72) -/

/-- The home of another tree is left by a change of one home. -/
theorem State.onlyHome.home_other {s u : State} {v t : TreeId} {k : HomeIdx} (hf : s.onlyHome u v k)
    (ht : t ≠ v) (h : HomeIdx) : u.home t h = s.home t h := by
  rw [State.home, State.home, hf.2.1 t ht]

/-- Settles O12: a LOST home moves, a BARRED one is ignored, any other is a clone. -/
theorem replyOfASerialHeldOnAnotherTree : Obligations.ReplyOfASerialHeldOnAnotherTree := by
  intro s t v k light w w' serial delay offset level hup hwindow hcall hread hlow hhigh hmin hmax
    hfound hother c rtt r s' e
  have hexec : exec c s = .next (s'.acceptReply t serial rtt level) :=
    exec_discoveryReply_accepted hup hwindow hcall hread hlow hhigh hmin hmax
  have hfound' : s'.lookup serial = some (v, k) := hfound
  have hrecord : s'.record v k = r := s.record_readTo t w' v k
  rw [hexec]
  refine ⟨fun hstate => ⟨?_, fun hnone => ?_⟩, fun hstate => ?_, fun hstate => ?_⟩
  · intro h hfree hleast generation
    have hfreed := s'.freed_departWithDismiss v k .moved .moved (by decide) (by simp)
    have htraffic := s'.departWithDismiss_sameTraffic v k .moved .moved (by decide)
    generalize hm : s'.departWithDismiss v k .moved .moved = m at hfreed htraffic
    have hframe : s'.onlyHome m v k := hfreed.2.2.2.2.2
    have hrecords : ∀ j, m.record t j = s.record t j := fun j => by
      rw [State.record, hframe.home_other hother.symm, ← State.record, State.record_readTo]
    have hlowest : m.lowestFree t = some h :=
      State.lowestFree_eq_some (by rw [hrecords]; exact hfree)
        fun j hj => by rw [hrecords]; exact hleast j hj
    have htree : m.tree t = s'.tree t := hframe.2.1 t hother.symm
    obtain ⟨hhome, htx, hindex, hmeter, hlight, hclaim, honly⟩ :=
      m.enrolAt_spec t h serial rtt level
    refine ⟨m, m.enrolAt t h serial rtt level, hfreed, (s.readTo_sameTraffic t w').trans htraffic,
      ?_, ?_, ?_, hindex, hmeter, ?_, ?_, honly⟩
    · have hfirst : s'.lowestFree t = some h := by
        rw [State.readTo_lowestFree]
        exact State.lowestFree_eq_some hfree hleast
      simp [State.acceptReply, hfound', hrecord, hstate, hother, State.moveHome, hfirst, hm,
        State.enrolNew, hlowest]
    · rw [hhome, State.allocated, hrecords, hframe.home_other hother.symm, State.home_readTo]
    · rw [htx, htree, State.tree_readTo_self]
    · rw [hlight, htree, State.tree_readTo_self]
    · rw [hrecords] at hclaim
      exact (State.sameTraffic_postEntry ((s.readTo_sameTraffic t w').trans htraffic) _).trans hclaim
  · have hfull : s'.lowestFree t = none := by
      rw [State.readTo_lowestFree]
      exact State.lowestFree_eq_none hnone
    simp [State.acceptReply, hfound', hrecord, hstate, hother, State.moveHome, hfull]
    exact s.countTableFull_readTo t w'
  · simp [State.acceptReply, hfound', hrecord, hstate, hother]
  · intro contested
    obtain ⟨honly, htraffic⟩ := s'.clone_spec t v k rtt level
    rw [hrecord] at honly htraffic
    refine ⟨_, ?_, honly, (State.sameTraffic_post (s.readTo_sameTraffic t w') _ _ _).trans htraffic⟩
    rcases hstate with hstate | hstate | hstate | hstate <;>
      simp [State.acceptReply, hfound', hrecord, hstate, hother]

end Sys2Proof.Machine
end

section
/-! SUPPORT. Quenches and their undoing, and the watch on the dark (chapter 7): the statements O13 to O16
and O18. -/

namespace Sys2Proof.Machine

/-! ### A quench by score (R125, R126) -/

section quench
variable (s : State) (t : TreeId) (h : HomeIdx)

/-- The state timer of a quench runs while the relapses, with this quench counted, are below
RELAPSE_LIMIT. -/
theorem State.quenchTimer_eq : s.quenchTimer t h =
    if decide ((s.record t h).relapses.getD 0 + 1 < s.cfg.relapseLimit) then
      some (max s.cfg.quenchHold 1) else none := by
  simp [State.quenchTimer, startTimer]

/-- A quench of a record, as `State.entered`. -/
theorem State.entered_quenched (timer : Option Nat) {cause : Cause} (hadmit : cause ≠ .admission) :
    s.entered ((s.changeState t h .quenched timer cause).queueWord t (.darken h)) t h
      { (s.record t h).standing .quenched timer with
        relapses := relapsesAfter s.cfg.relapseLimit cause (s.record t h).relapses
        testDark := darkAfterNotice (s.tree t).light .quenched cause (s.record t h).testDark }
      cause (.darken h) := by
  rw [← s.entry_standing t h timer cause rfl (by decide)]
  exact s.entered_changeState t h .quenched timer cause _ (by decide) hadmit

theorem State.changeState_round (new : RecordState) (timer : Option Nat) (cause : Cause) :
    (s.changeState t h new timer cause).round = s.round :=
  (s.changeState_onlyHome t h new timer cause).1.1.2.2.1

/-- The alarms of a quench by score, by the figures that the record then has. -/
theorem State.scoreQuench_sameTraffic (timer : Option Nat) :
    let r := s.record t h
    let relapses := r.relapses.map (fun n => min (n + 1) s.cfg.relapseLimit)
    let alarmed := s.post .monitor 31 (.alarm
      { kind := .rogueScore, tree := t, round := s.round, cause := none, home := h
        serial := r.serial.getD 0, generation := r.generation, relapses := relapses.getD 0
        holdRuns := timer.isSome, state := none, figure := 0 })
    (if timer.isNone then alarmed.post .monitor 31 (.alarm
        { kind := .relapseLimit, tree := t, round := s.round, cause := none, home := h
          serial := r.serial.getD 0, generation := 0, relapses := relapses.getD 0
          holdRuns := false, state := none, figure := 0 }) else alarmed).sameTraffic
      ((s.changeState t h .quenched timer .scoreQuench).queueWord t (.darken h)) := by
  have halarms := s.changeState_alarms t h .quenched timer
  have hrecord : (s.changeState t h .quenched timer .scoreQuench).record t h
      = s.entry t h .quenched timer .scoreQuench := by
    rw [State.record, State.changeState_home]
    rfl
  simp only [State.rogueScoreAlarm, State.relapseLimitAlarm, hrecord, State.changeState_round,
    s.entry_standing t h timer .scoreQuench (new := .quenched) rfl (by decide)] at halarms
  exact State.sameTraffic_queueWord halarms t _

end quench

/-- Settles O13: an ACTIVE record of the generation named is quenched with its alarms; the request finds
no other record. -/
theorem scoreQuenchIsMade : Obligations.ScoreQuenchIsMade := by
  intro s t h generation hup c r relapses holds quenched alarmed
  refine ⟨fun hstate hgen => ?_, fun hother => ?_⟩
  · have hentered := (s.take c).entered_quenched t h (s.quenchTimer t h) (cause := .scoreQuench)
      (by decide)
    have htraffic := (s.take c).scoreQuench_sameTraffic t h (s.quenchTimer t h)
    refine ⟨((s.take c).changeState t h .quenched (s.quenchTimer t h) .scoreQuench).queueWord t
      (.darken h), ?_, ?_, ?_⟩
    · simp only [exec, c, execScoreQuenchRequest, State.whileUp_up hup]
      rw [if_pos (by simp [State.names_of hstate (by decide) hgen, show (s.record t h).state = _ from hstate])]
    · rw [State.quenchTimer_eq] at hentered ⊢
      exact hentered.untake
    · rw [State.quenchTimer_eq] at htraffic ⊢
      simp only [State.take_record, State.take_cfg, State.take_round] at htraffic
      cases hholds : decide ((s.record t h).relapses.getD 0 + 1 < s.cfg.relapseLimit) <;>
        simpa [hholds, holds, alarmed, relapses, r, ← hgen] using htraffic
  · have hignored : (s.names t h generation && decide ((s.record t h).state = .active)) = false := by
      rcases hother with hother | hother <;> simp [State.names, r] at hother ⊢ <;> simp [hother]
    simp [exec, c, execScoreQuenchRequest, State.whileUp_up hup, hignored]

/-! ### The outcome of a search quench (R136) -/

section outcome
variable (s : State) (t : TreeId) (h : HomeIdx) (generation : Nat) (o : SearchOutcome)

/-- A change that gives a tree its own value changes nothing. -/
theorem State.modTree_same {f : Tree → Tree} (hf : f (s.tree t) = s.tree t) : s.modTree t f = s := by
  unfold State.modTree
  rw [hf, State.tree, Vector.get_eq_getElem, Vector.set_getElem_self]

theorem State.modRecord_same {f : HomeRecord → HomeRecord} (hf : f (s.record t h) = s.record t h) :
    s.modRecord t h f = s := by
  show s.modTree t (fun tr => tr.modHome h (fun x => { x with record := f x.record })) = s
  refine s.modTree_same t (Tree.modHome_same _ h ?_)
  show { s.home t h with record := f (s.record t h) } = s.home t h
  rw [hf]
  rfl

theorem State.recordOutcome_eq : s.recordOutcome t h generation o
    = s.setLight t ((s.tree t).light.withOutcome h generation o) := by
  have hsame : ∀ l, (s.tree t).light = l → s = s.setLight t l := fun l hl =>
    (s.modTree_same t (Tree.withLight_same _ hl)).symm
  unfold State.recordOutcome Light.withOutcome
  split <;> rename_i hl <;> simp only [hl]
  · split
    · rfl
    · exact hsame _ hl
  all_goals exact hsame _ hl

/-- An outcome recorded stays through a notice that does not end the verification. -/
theorem Light.withOutcome_afterNotice (l : Light) {new : RecordState} {cause : Cause}
    (hnew : new ≠ .free) (hactive : new ≠ .active) (hscore : cause ≠ .scoreQuench)
    (hrefuse : cause ≠ .refuse) (g : Nat) :
    (l.afterNotice h g new cause).withOutcome h generation o
      = (l.withOutcome h generation o).afterNotice h g new cause := by
  rw [Light.afterNotice_same _ _ _ hnew hscore hrefuse fun hn => absurd hn hactive,
    Light.afterNotice_same _ _ _ hnew hscore hrefuse fun hn => absurd hn hactive]

/-- A light state set beforehand is in the frame of one home. -/
theorem State.onlyHome.of_setLight {s u : State} {t : TreeId} {h : HomeIdx} (l : Light)
    (hf : s.onlyHome u t h) : (s.setLight t l).onlyHome u t h := by
  refine State.onlyHome.trans (b := s) ⟨s.sameChip_refl, fun v hv => by simp [hv], ?_, ?_⟩ hf
  · simp [Tree.sameLine]
  · simp

/-- A whole change of a record with its outcome noted is the same as one made after the note. -/
theorem State.entered.noted {s u : State} {t : TreeId} {h : HomeIdx} {r : HomeRecord} {cause : Cause}
    {w : ControlWord} (hf : s.entered u t h r cause w) (hnew : r.state ≠ .free)
    (hactive : r.state ≠ .active) (hscore : cause ≠ .scoreQuench) (hrefuse : cause ≠ .refuse)
    (generation : Nat) (o : SearchOutcome) :
    (s.setLight t ((s.tree t).light.withOutcome h generation o)).entered
      (u.recordOutcome t h generation o) t h r cause w := by
  obtain ⟨hhome, hmeter, htx, hlight, hindex, honly⟩ := hf
  rw [State.recordOutcome_eq]
  refine ⟨by simpa using hhome, hmeter, by simpa using htx, ?_, hindex,
    (honly.trans (State.setLight_onlyHome _ t h _)).of_setLight _⟩
  simp only [State.tree_setLight_self, State.record_setLight]
  rw [hlight, Light.withOutcome_afterNotice _ _ _ _ hnew hactive hscore hrefuse]

theorem State.recordOutcome_sameTraffic : s.sameTraffic (s.recordOutcome t h generation o) := by
  rw [State.recordOutcome_eq]
  exact ⟨rfl, rfl, rfl⟩

theorem State.alarmRelapseLimit_eq : s.alarmRelapseLimit t h =
    if (s.record t h).stateTimer.isNone then s.post .monitor 31 (.alarm
      { kind := .relapseLimit, tree := t, round := s.round, cause := none, home := h
        serial := (s.record t h).serial.getD 0, generation := 0
        relapses := (s.record t h).relapses.getD 0
        holdRuns := false, state := none, figure := 0 }) else s := rfl

end outcome

/-- What a SEARCH_QUENCH_REQUEST for the record it names answers. -/
theorem exec_searchQuenchRequest {s : State} {t : TreeId} {h : HomeIdx} {generation : Nat}
    (hup : s.inReset = none) (hnamed : s.names t h generation = true) :
    exec (.searchQuenchRequest t h generation) s
      = .next ((s.take (.searchQuenchRequest t h generation)).searchQuench t h generation) := by
  simp [exec, execSearchQuenchRequest, State.whileUp_up hup, hnamed]

/-- A change of one record's fields after a light state and a word of its tree were set. -/
theorem State.recordOnly_noted (s : State) (t : TreeId) (h : HomeIdx) (f : HomeRecord → HomeRecord)
    (w : ControlWord) (generation : Nat) (o : SearchOutcome) :
    ((s.setLight t ((s.tree t).light.withOutcome h generation o)).queueWord t w).recordOnly
      (((s.modRecord t h f).queueWord t w).recordOutcome t h generation o) t h
      (f (s.record t h)) := by
  rw [State.recordOutcome_eq]
  have honly : s.onlyHome ((s.modRecord t h f).queueWord t w) t h :=
    (s.modRecord_onlyHome t h f).trans (State.queueWord_onlyHome _ t h w)
  refine ⟨?_, rfl, by simp [State.tree_modRecord_self], by simp [State.tree_modRecord_self], rfl, ?_⟩
  · simp [State.modRecord, State.record]
  · refine State.onlyHome.trans (b := s) ⟨s.sameChip_refl, fun v hv => by simp [hv], ?_, ?_⟩
      (honly.trans (State.setLight_onlyHome _ t h _))
    · simp [Tree.sameLine]
    · simp

theorem State.searchQuench_quenched {s : State} {t : TreeId} {h : HomeIdx} (generation : Nat)
    (hstate : (s.record t h).state = .quenched) :
    s.searchQuench t h generation =
      let s1 := (s.modRecord t h (fun r =>
        { r with stateTimer := none, relapses := some s.cfg.relapseLimit })).queueWord t (.darken h)
      (s1.recordOutcome t h generation (.held .quenched (s.record t h).relapses)).post .monitor 31
        (.alarm (s1.rogueFoundAlarm t h .ignoringDarken)) := by
  simp only [State.searchQuench, hstate]
  rfl

theorem State.searchQuench_barred {s : State} {t : TreeId} {h : HomeIdx} (generation : Nat)
    (hstate : (s.record t h).state = .barred) :
    s.searchQuench t h generation =
      ((s.queueWord t (.darken h)).recordOutcome t h generation
        (.held .barred (s.record t h).relapses)).post .monitor 31
          (.alarm (s.rogueFoundAlarm t h .ignoringDarken)) := by
  simp only [State.searchQuench, hstate]
  rfl

/-- Settles O14: a search quench request goes by the state in which it finds its record. -/
theorem searchQuenchGoesByState : Obligations.SearchQuenchGoesByState := by
  intro s t h generation hup c r relapses holds noted ignoring
  have hrecord : (s.take c).record t h = r := rfl
  refine ⟨fun hgen => ?_, fun hother => ?_⟩
  · have hexec : r.state ≠ .free →
        exec c s = .next ((s.take c).searchQuench t h generation) := fun hfree =>
      exec_searchQuenchRequest hup (State.names_of rfl hfree hgen)
    refine ⟨fun hstate => ?_, fun hstate => ?_, fun hstate => ?_, fun hstate => ?_⟩
    · have hentered := ((s.take c).entered_quenched t h (s.quenchTimer t h) (cause := .searchQuench)
        (by decide)).noted (by decide : RecordState.quenched ≠ .free)
        (by decide : RecordState.quenched ≠ .active) (by decide) (by decide) generation
        (.moved r.state r.relapses)
      have hdark : darkAfterNotice (s.tree t).light .quenched .searchQuench r.testDark = r.testDark :=
        darkAfterNotice_stays _ _ (by decide) (by decide)
      have htraffic := ((s.take c).changeState_queueWord_sameTraffic t h .quenched (s.quenchTimer t h)
        (.darken h) (cause := .searchQuench) (by decide)).trans
        (State.recordOutcome_sameTraffic _ t h generation (.moved r.state r.relapses))
      have hround : (((((s.take c).changeState t h .quenched (s.quenchTimer t h) .searchQuench).queueWord
          t (.darken h)).recordOutcome t h generation (.moved r.state r.relapses))).round = s.round :=
        hentered.2.2.2.2.2.1.1.2.2.1
      have hafter := hentered.1
      generalize hx : (((s.take c).changeState t h .quenched (s.quenchTimer t h) .searchQuench).queueWord
          t (.darken h)).recordOutcome t h generation (.moved r.state r.relapses) = x
        at hentered htraffic hround hafter
      have hquench : (s.take c).searchQuench t h generation = x.alarmRelapseLimit t h := by
        rw [← hx]
        rcases hstate with hstate | hstate <;> simp only [State.searchQuench, hrecord, hstate] <;> rfl
      refine ⟨_, hexec (by rcases hstate with hstate | hstate <;> simp [hstate]), ?_, ?_⟩
      · rw [hquench, State.alarmRelapseLimit_eq]
        have hwhole : (noted (.moved r.state r.relapses)).entered x t h
            { r.standing .quenched (if holds then some (max s.cfg.quenchHold 1) else none) with
              relapses := relapses } .searchQuench (.darken h) := by
          rw [State.quenchTimer_eq] at hentered
          simp only [State.take_tree, State.take_record, hdark, r] at hentered
          exact hentered
        split
        · exact hwhole.post _ _ _
        · exact hwhole
      · rw [hquench, State.alarmRelapseLimit_eq, State.record, hafter, hround, State.quenchTimer_eq]
        cases hholds : decide ((s.record t h).relapses.getD 0 + 1 < s.cfg.relapseLimit)
        · simp only [holds, r, hholds]
          exact State.sameTraffic_post htraffic _ _ _
        · simp only [holds, r, hholds]
          exact htraffic
    · have hentered := ((s.take c).entered_untiered t h (some (startTimer s.cfg.barHold)) (.darken h)
        (cause := .searchBar) (new := .barred) (by decide) rfl (by decide) (by decide)).noted
        (by decide : RecordState.barred ≠ .free) (by decide : RecordState.barred ≠ .active)
        (by decide) (by decide) generation (.moved r.state r.relapses)
      have htraffic := ((s.take c).changeState_queueWord_sameTraffic t h .barred
        (some (startTimer s.cfg.barHold)) (.darken h) (cause := .searchBar) (by decide)).trans
        (State.recordOutcome_sameTraffic _ t h generation (.moved r.state r.relapses))
      have hquench : (s.take c).searchQuench t h generation
          = (((s.take c).changeState t h .barred (some (startTimer s.cfg.barHold)) .searchBar).queueWord
              t (.darken h)).recordOutcome t h generation (.moved r.state r.relapses) := by
        rcases hstate with hstate | hstate <;> simp only [State.searchQuench, hrecord, hstate] <;> rfl
      refine ⟨_, hexec (by rcases hstate with hstate | hstate <;> simp [hstate]), ?_, ?_⟩
      · rw [hquench]; exact hentered
      · rw [hquench]; exact htraffic
    · have honly : ((noted (.held .quenched r.relapses)).queueWord t (.darken h)).recordOnly _ t h _ :=
        (s.take c).recordOnly_noted t h
          (fun r => { r with stateTimer := none, relapses := some s.cfg.relapseLimit }) (.darken h)
          generation (.held .quenched r.relapses)
      refine ⟨_, hexec (by simp [hstate]), ?_, ?_⟩ <;>
        rw [State.searchQuench_quenched (s := s.take c) generation hstate]
      · exact honly.post _ _ _
      · simp only [State.rogueFoundAlarm, State.record_queueWord, State.record_modRecord_self, hrecord,
          hstate]
        exact State.sameTraffic_post ((State.sameTraffic_queueWord
          (State.sameTraffic_modRecord (State.sameTraffic_refl _) t h _) t _).trans
          (State.recordOutcome_sameTraffic _ t h generation _)) _ _ _
    · have honly : ((noted (.held .barred r.relapses)).queueWord t (.darken h)).recordOnly _ t h _ :=
        (s.take c).recordOnly_noted t h (fun r => r) (.darken h) generation (.held .barred r.relapses)
      rw [State.modRecord_same _ t h rfl] at honly
      refine ⟨_, hexec (by simp [hstate]), ?_, ?_⟩ <;>
        rw [State.searchQuench_barred (s := s.take c) generation hstate]
      · exact honly.post _ _ _
      · simp only [State.rogueFoundAlarm, hrecord, hstate]
        exact State.sameTraffic_post ((State.sameTraffic_queueWord (State.sameTraffic_refl _) t _).trans
          (State.recordOutcome_sameTraffic _ t h generation _)) _ _ _
  · have hignored : s.names t h generation = false := by
      rcases hother with hother | hother <;> simp [State.names, r] at hother ⊢ <;> simp [hother]
    simp [exec, c, execSearchQuenchRequest, State.whileUp_up hup, hignored]

/-! ### The undoing (R140) -/

/-- What an UNDO_REQUEST without a noted REFUSE answers for the record it names. -/
theorem exec_undoRequest {s : State} {t : TreeId} {h : HomeIdx} {generation : Nat}
    (o : SearchOutcome) (hup : s.inReset = none) (hnamed : s.names t h generation = true) :
    exec (.undoRequest t h generation (some o) false) s
      = .next ((s.take (.undoRequest t h generation (some o) false)).undo t h o) := by
  simp [exec, execUndoRequest, State.whileUp_up hup, hnamed]

/-- A search outcome that did not leave the record in its state undoes nothing. -/
theorem State.undo_of_other {s : State} {t : TreeId} {h : HomeIdx} {o : SearchOutcome}
    (hleft : stateLeftBy o ≠ some (s.record t h).state) : s.undo t h o = s := by
  cases hstate : (s.record t h).state <;> rcases o with ⟨prior, relapses⟩ | ⟨prior, relapses⟩ <;>
    cases prior <;> simp [stateLeftBy, hstate] at hleft <;> simp [State.undo, hstate]

/-- Settles O15: an undo request acts where the record stands as the outcome left it. -/
theorem undoRestoresWhatTheSearchDid : Obligations.UndoRestoresWhatTheSearchDid := by
  intro s t h generation prior outcome refuseNoted hup c r
  refine ⟨fun hgen => ⟨fun hstate => ⟨fun from' hfrom => ?_, ?_⟩, fun hstate => ⟨?_, ?_⟩⟩, ?_⟩
  · have hquenched : (s.record t h).state = .quenched := hstate
    rw [show exec (c (.moved from' prior)) s = _ from
      exec_undoRequest _ hup (State.names_of hstate (by decide) hgen)]
    refine ⟨_, rfl, ?_, ?_⟩ <;>
      rw [show (s.take (c (.moved from' prior))).undo t h (.moved from' prior)
        = ((s.take (c (.moved from' prior))).changeState t h .active none (.undo prior)).queueWord t
            (.light h) by rcases hfrom with rfl | rfl <;> simp [State.undo, hquenched]]
    · exact ((s.take (c (.moved from' prior))).entered_active t h (cause := .undo prior) (.light h)
        (by simp) (by simp)).untake
    · exact State.changeState_queueWord_sameTraffic _ t h _ _ _ (by simp)
  · have hquenched : (s.record t h).state = .quenched := hstate
    rw [show exec (c (.held .quenched prior)) s = _ from
      exec_undoRequest _ hup (State.names_of hstate (by decide) hgen)]
    simp only [State.undo, State.take_record, hquenched]
    exact ⟨_, rfl, (State.recordOnly_modRecord _ t h _).untake, ⟨rfl, rfl, rfl⟩⟩
  · have hbarred : (s.record t h).state = .barred := hstate
    rw [show exec (c (.moved .claiming prior)) s = _ from
      exec_undoRequest _ hup (State.names_of hstate (by decide) hgen)]
    simp only [State.undo, State.take_record, hbarred]
    exact ⟨_, rfl, ((s.take (c (.moved .claiming prior))).entered_untiered t h _ _ (by decide) rfl
      (by simp) (by simp)).untake, State.changeState_queueWord_sameTraffic _ t h _ _ _ (by simp)⟩
  · have hbarred : (s.record t h).state = .barred := hstate
    rw [show exec (c (.moved .awaiting prior)) s = _ from
      exec_undoRequest _ hup (State.names_of hstate (by decide) hgen)]
    simp only [State.undo, State.take_record, hbarred]
    exact ⟨_, rfl, ((s.take (c (.moved .awaiting prior))).entered_untiered t h _ _ (by decide) rfl
      (by simp) (by simp)).untake, State.changeState_queueWord_sameTraffic _ t h _ _ _ (by simp)⟩
  · intro d hother
    simp only [exec, d, execUndoRequest, State.whileUp_up hup]
    rcases hother with hnoted | hgen | hleft
    · simp [hnoted]
    · simp [State.names, show (s.record t h).generation ≠ generation from hgen]
    · rcases outcome with _ | o
      · simp
      · have hundo := State.undo_of_other (s := s.take d) (t := t) (h := h) (o := o) hleft
        split
        · exact congrArg _ hundo
        · rfl

/-! ### Entering SEARCH (R130, R131, R142) -/

/-- Settles O16: the SEARCH_START is posted first; the search then begins on its first half, or ends in
FOREIGN with no candidate. -/
theorem searchBeginsWithEveryEnrolledHome : Obligations.SearchBeginsWithEveryEnrolledHome := by
  intro s t cause candidates half alarmed u
  have hposts : s.onlyWatch alarmed t := s.alarm_onlyWatch t _
  refine ⟨fun hsome => ?_, fun hnone => ?_⟩
  · have hu : u = alarmed.chooseHalf t 0 candidates := if_neg hsome
    clear_value u
    subst hu
    exact ⟨alarmed.chooseHalf_light t _ _,
      fun h => by rw [alarmed.chooseHalf_home]; simp [alarmed, half, State.post_record],
      hposts.trans (alarmed.chooseHalf_onlyWatch t _ _), alarmed.chooseHalf_sameTraffic t _ _⟩
  · have hu : u = alarmed.enterForeign t .listEmpty := if_pos hnone
    clear_value u
    subst hu
    refine ⟨?_, fun h => ?_, hposts.trans (alarmed.enterForeign_onlyWatch t _), ?_⟩
    · rw [State.enterForeign_light]; simp [alarmed]
    · rw [State.enterForeign_home]; simp [alarmed]
    · have htraffic := alarmed.enterForeign_sameTraffic t .listEmpty
      rw [show alarmed.round = s.round by simp [alarmed], show alarmed.tree t = s.tree t by simp [alarmed]]
        at htraffic
      exact htraffic

/-! ### The streaks and the foreign timer (R128, R132, R134, R142) -/

theorem State.monitorReceiveEnd_clear {s : State} {t : TreeId} {streak : Nat}
    (hlight : (s.tree t).light = .clear streak) (round : Nat) (lit : Bool) :
    s.monitorReceiveEnd t round lit =
      if lit then
        if s.cfg.darkRounds ≤ streak + 1 then s.enterSearch t .darkStreak
        else s.setLight t (.clear (streak + 1))
      else s.setLight t (.clear 0) := by
  simp [State.monitorReceiveEnd, hlight]

theorem State.monitorReceiveEnd_search {s : State} {t : TreeId} {d : Search}
    (hlight : (s.tree t).light = .search d) (round : Nat) (lit : Bool) :
    s.monitorReceiveEnd t round lit = s.searchReceiveEnd t d round lit := by
  simp [State.monitorReceiveEnd, hlight]

/-- Outside the test round and its void a round receive end in SEARCH moves the clear streak. -/
theorem State.searchReceiveEnd_streak (s : State) (t : TreeId) {d : Search} {round : Nat} (lit : Bool)
    (htest : d.phase ≠ .testing round) (hvoid : d.phase ≠ .void round) :
    s.searchReceiveEnd t d round lit = s.keepClearStreak t d lit := by
  unfold State.searchReceiveEnd
  split <;> rename_i hphase
  · rw [if_neg fun e => htest (by rw [hphase, e])]
  · rw [if_neg fun e => hvoid (by rw [hphase, e])]
  · rfl

/-- Settles O18: the light state goes by the streaks of lit and unlit rounds, and out of FOREIGN by its
timer and the last lit count. -/
theorem streaksAndTimersMoveTheLightState : Obligations.StreaksAndTimersMoveTheLightState := by
  refine ⟨fun s t round lit => ?_, fun s t hup hlight => ?_⟩
  · intro u
    refine ⟨fun streak hlight => ?_, fun d hlight htest hvoid => ?_, fun d hlight hvoid => ?_,
      fun n hlight => ?_, fun hlight => ?_⟩
    · have hu : u = _ := State.monitorReceiveEnd_clear hlight round lit
      refine ⟨fun hlit => ?_, fun hlit hfew => ?_, fun hlit hmany => ?_⟩ <;> rw [hu, hlit]
      · rfl
      · rw [if_pos rfl, if_neg (by omega)]
      · rw [if_pos rfl, if_pos hmany]
    · have hu : u = s.keepClearStreak t d lit :=
        (State.monitorReceiveEnd_search hlight round lit).trans
          (s.searchReceiveEnd_streak t lit htest hvoid)
      refine ⟨fun hlit => ?_, fun hlit hfew => ?_, fun hlit hmany => ?_⟩ <;>
        rw [hu, hlit, State.keepClearStreak]
      · rfl
      · rw [if_neg (by decide), if_neg (by omega)]
      · rw [if_neg (by decide), if_pos hmany]
        exact ⟨by simp, s.setTestDark_setLight_onlyWatch t _ _,
          s.setTestDark_setLight_sameTraffic t _ _, fun h => by simp⟩
    · have hu : u = _ := State.monitorReceiveEnd_search hlight round lit
      rw [hu, State.searchReceiveEnd, hvoid]
      exact if_pos rfl
    · simp [u, State.monitorReceiveEnd, hlight]
    · simp [u, State.monitorReceiveEnd, hlight]
  · refine ⟨fun n hlast => ⟨fun hlit => ?_, fun hunlit => ?_⟩, fun hlast => ?_⟩
    · simp [exec, execForeignTimerExpiry, State.whileUp_up hup, hlight, hlast, State.isLit, hlit]
    · simp [exec, execForeignTimerExpiry, State.whileUp_up hup, hlight, hlast, State.isLit,
        Nat.not_le.mpr hunlit]
    · simp [exec, execForeignTimerExpiry, State.whileUp_up hup, hlight, hlast]

end Sys2Proof.Machine
end

section
/-! SUPPORT. The transmit queue and the shelf line (chapter 3): lists kept in order of age, what a post does
by the queue it finds; then the statements O20, O21, O24 and O25. -/

namespace Sys2Proof.Machine

/-! ### Lists kept in order of age -/

section age
variable {α : Type} {p : α → Bool} {older younger : List α} {x : α}

theorem find?_middle (hx : p x = true) (hold : ∀ y ∈ older, p y = false) :
    (older ++ x :: younger).find? p = some x :=
  List.find?_eq_some_iff_append.mpr ⟨hx, older, younger, rfl, by simpa using hold⟩

theorem erase_middle [BEq α] [LawfulBEq α] (hx : x ∉ older) :
    (older ++ x :: younger).erase x = older ++ younger := by
  rw [List.erase_append_right _ hx, List.erase_cons_head]

theorem youngest?_middle (hx : p x = true) (hyoung : ∀ y ∈ younger, p y = false) :
    youngest? p (older ++ x :: younger) = some x := by
  have hreverse : (older ++ x :: younger).reverse = younger.reverse ++ x :: older.reverse := by simp
  rw [youngest?, hreverse]
  exact find?_middle hx (by simpa using hyoung)

theorem dropYoungest_middle (hx : p x = true) (hyoung : ∀ y ∈ younger, p y = false) :
    dropYoungest p (older ++ x :: younger) = older ++ younger := by
  have hreverse : (older ++ x :: younger).reverse = younger.reverse ++ x :: older.reverse := by simp
  rw [dropYoungest, hreverse, List.eraseP_append_right _ (by simpa using hyoung),
    List.eraseP_cons_of_pos hx]
  simp

theorem youngest?_eq_none {l : List α} (hnone : ∀ y ∈ l, p y = false) : youngest? p l = none := by
  rw [youngest?, List.find?_eq_none]
  simpa using hnone

/-- A list that holds an entry with a property has a youngest one. -/
theorem exists_youngest {l : List α} (hany : ∃ y ∈ l, p y = true) :
    ∃ older x younger, l = older ++ x :: younger ∧ p x = true ∧ ∀ y ∈ younger, p y = false := by
  obtain ⟨y, hy, hpy⟩ := hany
  have hsome : (l.reverse.find? p).isSome := List.find?_isSome.mpr ⟨y, by simpa using hy, hpy⟩
  obtain ⟨x, hx⟩ := Option.isSome_iff_exists.mp hsome
  obtain ⟨hpx, before, after, hl, hbefore⟩ := List.find?_eq_some_iff_append.mp hx
  refine ⟨after.reverse, x, before.reverse, ?_, hpx, by simpa using hbefore⟩
  rw [← l.reverse_reverse, hl]
  simp

end age

/-! ### What a post does (R55 to R57) -/

section posting
variable {s : State} {e x : TxEntry} {older younger : List TxEntry}

theorem State.postEntry_replaces (hq : s.bus.queue = older ++ x :: younger)
    (hx : x.replacedBy e.msg = true) (hyoung : ∀ y ∈ younger, y.replacedBy e.msg = false) :
    s.postEntry e = (s.setQueue (older ++ younger ++ [e])).tell .replaced x := by
  simp only [State.postEntry, hq]
  rw [youngest?_middle hx hyoung, dropYoungest_middle hx hyoung]

theorem State.postEntry_joins (hnone : ∀ x ∈ s.bus.queue, x.replacedBy e.msg = false)
    (hroom : s.bus.queue.length < 16) : s.postEntry e = s.setQueue (s.bus.queue ++ [e]) := by
  simp only [State.postEntry, youngest?_eq_none hnone]
  exact if_pos hroom

theorem State.postEntry_displaces {c : MsgClass}
    (hnone : ∀ x ∈ s.bus.queue, x.replacedBy e.msg = false) (hfull : 16 ≤ s.bus.queue.length)
    (hclass : displacedClass e.cls s.bus.queue = some c) (hq : s.bus.queue = older ++ x :: younger)
    (hx : x.waits c = true) (hyoung : ∀ y ∈ younger, y.waits c = false) :
    s.postEntry e = ((s.setQueue (older ++ younger ++ [e])).countDropped).tell .dropped x := by
  have hlong : ¬ s.bus.queue.length < Config.queuePlaces := Nat.not_lt.mpr hfull
  simp only [State.postEntry, youngest?_eq_none hnone, hclass, if_neg hlong]
  rw [hq, youngest?_middle hx hyoung, dropYoungest_middle hx hyoung]

theorem State.postEntry_drops (hnone : ∀ x ∈ s.bus.queue, x.replacedBy e.msg = false)
    (hfull : 16 ≤ s.bus.queue.length) (hclass : displacedClass e.cls s.bus.queue = none) :
    s.postEntry e = s.countDropped.tell .dropped e := by
  have hlong : ¬ s.bus.queue.length < Config.queuePlaces := Nat.not_lt.mpr hfull
  simp only [State.postEntry, youngest?_eq_none hnone, hclass, if_neg hlong]

/-- Telling the end of an entry is put out, and reaches the owner of a CLAIM that was sent or dropped
(R58, R73). -/
theorem State.tell_dropped (s : State) (x : TxEntry) : s.tell .dropped x =
    { s with outputs := .told .dropped x :: s.outputs
             inFlight := s.inFlight ++ (match x.handle with
               | some k => [.claimDroppedReport k.tree k.home k.generation]
               | none => []) } := by
  unfold State.tell
  cases x.handle <;> simp [State.emit, State.raise]

theorem State.tell_sent (s : State) (x : TxEntry) : s.tell .sent x =
    { s with outputs := .told .sent x :: s.outputs
             inFlight := s.inFlight ++ (match x.handle with
               | some k => [.claimSentReport k.tree k.home k.generation]
               | none => []) } := by
  unfold State.tell
  cases x.handle <;> simp [State.emit, State.raise]

theorem State.tell_replaced (s : State) (x : TxEntry) : s.tell .replaced x =
    { s with outputs := .told .replaced x :: s.outputs } := by
  unfold State.tell
  cases x.handle <;> rfl

end posting

theorem TxEntry.waits_iff (c : MsgClass) (x : TxEntry) :
    x.waits c = true ↔ x.cls = c ∧ x.onLine = false := by
  simp [TxEntry.waits]

/-- A class that gives way is held off the line (R56). -/
theorem displacedClass_held {c d : MsgClass} {q : List TxEntry} (h : displacedClass c q = some d) :
    ∃ x ∈ q, x.waits d = true := by
  rw [← List.any_eq_true]
  cases c with
  | urgent => simp only [displacedClass] at h; split_ifs at h <;> cases h <;> assumption
  | normal => simp only [displacedClass] at h; split_ifs at h; cases h; assumption
  | bulk => cases h

theorem displacedClass_bulk {c : MsgClass} {q : List TxEntry} (hc : c ≠ .bulk)
    (hheld : ∃ x ∈ q, x.waits .bulk = true) : displacedClass c q = some .bulk := by
  rw [← List.any_eq_true] at hheld
  cases c <;> simp_all [displacedClass]

theorem displacedClass_normal {q : List TxEntry} (hbulk : ¬ ∃ x ∈ q, x.waits .bulk = true)
    (hheld : ∃ x ∈ q, x.waits .normal = true) : displacedClass .urgent q = some .normal := by
  rw [← List.any_eq_true] at hheld hbulk
  simp [displacedClass, hheld, hbulk]

theorem displacedClass_none {c : MsgClass} {q : List TxEntry}
    (h : c = .bulk ∨ (c = .normal ∧ ¬ ∃ x ∈ q, x.waits .bulk = true)
      ∨ ((¬ ∃ x ∈ q, x.waits .bulk = true) ∧ ¬ ∃ x ∈ q, x.waits .normal = true)) :
    displacedClass c q = none := by
  simp only [← List.any_eq_true] at h
  rcases h with rfl | ⟨rfl, hbulk⟩ | ⟨hbulk, hnormal⟩
  · rfl
  · simp [displacedClass, hbulk]
  · cases c <;> simp [displacedClass, hbulk, hnormal]

/-- Settles O24: a full queue loses its youngest entry of the class that gives way, or the newcomer. -/
theorem fullQueueGivesWayByClass : Obligations.FullQueueGivesWayByClass := by
  intro s e hfull hnone lost holds
  have hholds : ∀ c q, holds c q ↔ ∃ x ∈ q, x.waits c = true := fun c q => by
    simp only [holds, TxEntry.waits_iff]
  have hlost : ∀ q x, ((s.setQueue q).countDropped).tell .dropped x = lost q x := fun q x => by
    rw [State.tell_dropped]; rfl
  refine ⟨fun older younger x hq hline hlast hgives => ?_, fun hdrops => ?_, ?_⟩
  · have hx : x.waits x.cls = true := (TxEntry.waits_iff _ _).mpr ⟨rfl, hline⟩
    have hheld : ∃ y ∈ s.bus.queue, y.waits x.cls = true := ⟨x, by simp [hq], hx⟩
    have hclass : displacedClass e.cls s.bus.queue = some x.cls := by
      rcases hgives with ⟨hbulk, hother⟩ | ⟨hnormal, hurgent, hnobulk⟩
      · rw [hbulk] at hheld ⊢
        exact displacedClass_bulk hother hheld
      · rw [hholds] at hnobulk
        rw [hnormal] at hheld ⊢
        rw [hurgent]
        exact displacedClass_normal hnobulk hheld
    rw [hholds] at hlast
    rw [State.postEntry_displaces hnone hfull hclass hq hx (by simpa using hlast), hlost]
  · have hclass : displacedClass e.cls s.bus.queue = none := by
      simp only [hholds] at hdrops
      exact displacedClass_none hdrops
    rw [State.postEntry_drops hnone hfull hclass]
    exact hlost s.bus.queue e
  · cases hclass : displacedClass e.cls s.bus.queue with
    | none =>
      rw [State.postEntry_drops hnone hfull hclass, State.tell_dropped]
      rfl
    | some c =>
      obtain ⟨older, x, younger, hq, hx, hyoung⟩ := exists_youngest (displacedClass_held hclass)
      rw [State.postEntry_displaces hnone hfull hclass hq hx hyoung, hlost, hq]
      simp [lost]

/-- Settles O25: a newcomer joins as the youngest, or takes that place from the waiting one of its kind. -/
theorem newcomerJoinsOrReplaces : Obligations.NewcomerJoinsOrReplaces := by
  intro s e sameKind
  have hkind : ∀ x : TxEntry, x.replacedBy e.msg = true ↔ sameKind x ∧ x.onLine = false := by
    intro x
    simp only [TxEntry.replacedBy, sameKind]
    cases e.msg <;> cases x.msg <;> simp
  have hother : ∀ x : TxEntry, x.replacedBy e.msg = false ↔ ¬ (sameKind x ∧ x.onLine = false) :=
    fun x => by rw [← hkind]; simp
  refine ⟨fun hnone hroom => ?_, fun older younger x hq hsame hline hyoung => ?_⟩
  · exact State.postEntry_joins (fun x hx => (hother x).mpr (hnone x hx)) hroom
  · rw [State.postEntry_replaces hq ((hkind x).mpr ⟨hsame, hline⟩)
      (fun y hy => (hother y).mpr (hyoung y hy)), State.tell_replaced]
    rfl

/-! ### The entry on the line (R46 to R48) -/

section line
variable {s : State} {e : TxEntry} {older younger : List TxEntry}

theorem replaceEntry_middle {new : TxEntry} : ∀ {older : List TxEntry}, e ∉ older →
    replaceEntry e new (older ++ e :: younger) = older ++ new :: younger
  | [], _ => by simp [replaceEntry]
  | x :: older, hnew => by
    have hx : x ≠ e := fun h => hnew (by simp [h])
    have hrest : e ∉ older := fun h => hnew (by simp [h])
    rw [List.cons_append, replaceEntry, if_neg hx, replaceEntry_middle hrest]
    rfl

theorem Bus.sending_middle (hq : s.bus.queue = older ++ e :: younger) (hline : e.onLine = true)
    (hold : ∀ x ∈ older, x.onLine = false) : s.bus.sending = some e := by
  rw [Bus.sending, hq]
  exact find?_middle hline hold

theorem Bus.sending_none (hnone : ∀ x ∈ s.bus.queue, x.onLine = false) : s.bus.sending = none :=
  List.find?_eq_none.mpr fun x hx => by simp [hnone x hx]

/-- No entry older than the one on the line equals it. -/
theorem not_mem_of_offLine (hline : e.onLine = true) (hold : ∀ x ∈ older, x.onLine = false) :
    e ∉ older := fun h => by simp [hold e h] at hline

/-- The head of the queue is the oldest entry of the highest class held (R55). -/
theorem queueHead?_middle (hold : ∀ x ∈ older, e.cls.code < x.cls.code)
    (hyoung : ∀ x ∈ younger, e.cls.code ≤ x.cls.code) :
    queueHead? (older ++ e :: younger) = some e := by
  have hfind : ∀ c : MsgClass, e.cls = c →
      (older ++ e :: younger).find? (fun x => decide (x.cls = c)) = some e := fun c hc =>
    find?_middle (by simpa using hc) fun y hy => by
      have := hold y hy
      simp only [decide_eq_false_iff_not]
      rintro rfl
      simp [hc] at this
  have hnone : ∀ c : MsgClass, c.code < e.cls.code →
      (older ++ e :: younger).find? (fun x => decide (x.cls = c)) = none := fun c hc => by
    refine List.find?_eq_none.mpr fun y hy => ?_
    simp only [decide_eq_true_eq]
    rintro rfl
    rcases List.mem_append.mp hy with hy | hy
    · have := hold y hy; omega
    · rcases List.mem_cons.mp hy with rfl | hy
      · omega
      · have := hyoung y hy; omega
  cases hc : e.cls
  · simp [queueHead?, hfind _ hc]
  · simp [queueHead?, hfind _ hc, hnone .urgent (by simp [hc, MsgClass.code])]
  · simp [queueHead?, hfind _ hc, hnone .urgent (by simp [hc, MsgClass.code]),
      hnone .normal (by simp [hc, MsgClass.code])]

end line

/-- Settles O20: the line takes the head of an idle queue, and gives the entry back in its place or for
good. -/
theorem entriesGoOnAndOffTheLine : Obligations.EntriesGoOnAndOffTheLine := by
  refine ⟨fun s hup => ?_, fun s hup => ⟨fun older younger e hq hline hold => ⟨?_, ?_⟩,
    fun hnone => ⟨?_, ?_⟩⟩⟩
  · intro seen
    refine ⟨fun older younger e hq hidle hold hyoung => ?_, fun hbusy => ?_⟩
    · have hnew : e ∉ older := fun h => absurd (hold e h) (lt_irrefl _)
      simp only [exec, execLineIdle, State.whileUp_up hup, Bus.sending_none hidle, hq,
        queueHead?_middle hold hyoung, replaceEntry_middle hnew]
      rfl
    · simp only [exec, execLineIdle, State.whileUp_up hup]
      rcases hbusy with ⟨x, hx, hline⟩ | hempty
      · obtain ⟨e, he⟩ := Option.isSome_iff_exists.mp
          (List.find?_isSome.mpr ⟨x, hx, hline⟩ : (s.bus.queue.find? (·.onLine)).isSome)
        simp [Bus.sending, he, seen]
      · simp [Bus.sending, hempty, queueHead?, seen]
  · simp only [exec, execContentionLost, State.whileUp_up hup, Bus.sending_middle hq hline hold, hq,
      replaceEntry_middle (not_mem_of_offLine hline hold)]
    rfl
  · simp only [exec, execFrameSent, State.whileUp_up hup, Bus.sending_middle hq hline hold, hq,
      erase_middle (not_mem_of_offLine hline hold), State.tell_sent]
    rfl
  · simp [exec, execContentionLost, State.whileUp_up hup, Bus.sending_none hnone]
  · simp [exec, execFrameSent, State.whileUp_up hup, Bus.sending_none hnone]

/-! ### Clashes (R47, R50) -/

theorem Bus.clashAlarmWaits_iff (b : Bus) : b.clashAlarmWaits = true ↔
    ∃ x ∈ b.queue, x.onLine = false ∧ ∃ a : Alarm, x.msg = .alarm a ∧ a.kind = .addressClash := by
  simp only [Bus.clashAlarmWaits, List.any_eq_true, Bool.and_eq_true, Bool.not_eq_true']
  refine exists_congr fun x => and_congr_right fun _ => and_congr_right fun _ => ?_
  cases x.msg <;> simp

/-- An ALARM ADDRESS_CLASH is posted unless one waits. -/
theorem State.clashAlarm_waiting {s : State} (source : AlarmCause)
    (hwaits : ∃ x ∈ s.bus.queue, x.onLine = false ∧ ∃ a : Alarm, x.msg = .alarm a
      ∧ a.kind = .addressClash) : s.clashAlarm source = s :=
  if_pos ((Bus.clashAlarmWaits_iff _).mpr hwaits)

theorem State.clashAlarm_posts {s : State} (source : AlarmCause)
    (hnone : ∀ x ∈ s.bus.queue, ¬ (x.onLine = false ∧ ∃ a : Alarm, x.msg = .alarm a
      ∧ a.kind = .addressClash)) :
    s.clashAlarm source = s.post .bus 31 (.alarm
      { kind := .addressClash, tree := 0, round := s.round, cause := some source, home := 0
        serial := 0, generation := 0, relapses := 0, holdRuns := false, state := none, figure := 0 }) := by
  refine if_neg fun hwaits => ?_
  obtain ⟨x, hx, halarm⟩ := (Bus.clashAlarmWaits_iff _).mp hwaits
  exact hnone x hx halarm

/-- Settles O21: the entry is changed or dropped first, and the alarm posted on what is left. -/
theorem clashTakesTheEntryOffTheLine : Obligations.ClashTakesTheEntryOffTheLine := by
  intro s older younger e hup hq hline hold off counters kept dropped after waits
  have hnew := not_mem_of_offLine hline hold
  have hafter : ((s.clashEntry e).countClash).modBus (fun b => { b with clashFrame := true }) = after := by
    simp only [State.clashEntry, hq, replaceEntry_middle hnew, erase_middle hnew, after,
      Config.clashLimit]
    by_cases hfew : e.clashes + 1 < 16
    · rw [if_neg (Nat.not_le.mpr hfew), if_pos hfew]
      rfl
    · rw [if_pos (Nat.not_lt.mp hfew), if_neg hfew, State.tell_dropped]
      rfl
  have hexec : exec .addressClashSending s = .next (after.clashAlarm .sending) := by
    simp only [exec, execAddressClashSending, State.whileUp_up hup, Bus.sending_middle hq hline hold,
      hafter]
  have hround : after.round = s.round := by
    rw [← hafter]
    simp only [State.clashEntry]
    split
    · rw [State.tell_dropped]; rfl
    · rfl
  rw [hexec]
  refine ⟨fun hwaits => ?_, fun hnone => ?_⟩
  · rw [State.clashAlarm_waiting _ hwaits]
  · rw [State.clashAlarm_posts _ hnone, hround]

end Sys2Proof.Machine
end

section
/-! SUPPORT. Frames received and queries (chapters 2 and 3): which frames are handed on and what each kind
spells; then the statements O22, O23 and O26. -/

namespace Sys2Proof.Machine

/-! ### Frames received (R46, R49 to R54, R187) -/

/-- A FRAME_RECEIVED after the line's first idle goes by what is read from its bits. -/
theorem exec_frameReceived {s : State} {bits : List Bool} (hup : s.inReset = none)
    (hseen : s.bus.lineSeen = true) :
    exec (.frameReceived bits) s = .next
      ((readFrame bits).elim (s.modBus (fun b => { b with clashFrame := false })).countBad
        (fun f => if s.bus.clashFrame then s.modBus (fun b => { b with clashFrame := false })
          else (s.modBus (fun b => { b with clashFrame := false })).takeFrame f)) := by
  simp only [exec, execFrameReceived, State.whileUp_up hup, hseen, if_true]
  cases readFrame bits <;> rfl

/-- Settles O22: none of these frames gets as far as the filter. -/
theorem badAndClashingFramesGoNowhere : Obligations.BadAndClashingFramesGoNowhere := by
  intro s bits hup c s1
  refine ⟨fun hunseen => ?_, fun hseen => ?_⟩
  · simp [exec, c, execFrameReceived, State.whileUp_up hup, hunseen]
  · rw [show exec c s = _ from exec_frameReceived hup hseen]
    refine ⟨fun hbad => ?_, fun f hread => ?_⟩
    · rw [hbad]; rfl
    · refine ⟨fun hclash => by rw [hread, hclash]; rfl, fun hclash hown => ?_⟩
      intro counted waits
      have htake : s1.takeFrame f = counted.clashAlarm .received := if_pos hown
      rw [hread, Option.elim_some, hclash, if_neg (by decide), htake]
      exact ⟨fun hwaits => by rw [State.clashAlarm_waiting (s := counted) _ hwaits],
        fun hnone => by rw [State.clashAlarm_posts (s := counted) _ hnone]; rfl⟩

/-- The kinds and destinations that are taken (R51). -/
theorem takenByKind_iff (address : Nat) (f : ShelfFrame) : takenByKind address f = true ↔
    (f.dest = address ∧ ((0x11 ≤ f.kind ∧ f.kind ≤ 0x18)
        ∨ (f.kind = 0x02 ∨ f.kind = 0x03 ∨ f.kind = 0x04) ∨ f.kind = 0x10))
      ∨ (f.dest = 31 ∧ ((f.kind = 0x02 ∨ f.kind = 0x03 ∨ f.kind = 0x04) ∨ f.kind = 0x10)) := by
  unfold takenByKind
  split
  case h_1 | h_2 | h_3 | h_4 =>
    rw [Bool.or_eq_true, decide_eq_true_iff, decide_eq_true_iff]
    simp [Config.allStations, *]
  case h_13 =>
    simp only [imp_false] at *
    simp only [Bool.false_eq_true, false_iff]
    omega
  all_goals simp [*]

theorem needsManager_iff (kind : Nat) : needsManager kind = true ↔ 0x11 ≤ kind ∧ kind ≤ 0x18 := by
  simp [needsManager]

theorem takenWhileWaiting_iff (kind : Nat) :
    takenWhileWaiting kind = true ↔ kind = 0x10 ∨ kind = 0x18 := by
  simp [takenWhileWaiting]

section filter
variable {s : State} {f : ShelfFrame}

theorem State.modBus_same {b : Bus → Bus} (hb : b s.bus = s.bus) : s.modBus b = s := by
  unfold State.modBus
  rw [hb]

/-- A sound frame of another station that is not the rest of a clash goes to the filter. -/
theorem exec_frameReceived_filter {bits : List Bool} (hup : s.inReset = none)
    (hseen : s.bus.lineSeen = true) (hclash : s.bus.clashFrame = false)
    (hread : readFrame bits = some f) (hother : f.sender ≠ s.bus.address) :
    exec (.frameReceived bits) s = .next (s.filterFrame f) := by
  have hsame : s.modBus (fun b => { b with clashFrame := false }) = s :=
    State.modBus_same (by rw [← hclash])
  rw [exec_frameReceived hup hseen, hsame, hread, hclash]
  simp [State.takeFrame, hother]

theorem State.filterFrame_handOn (htaken : takenByKind s.bus.address f = true)
    (hwaiting : s.bus.chipState = .waitingSettings → f.kind = 0x10 ∨ f.kind = 0x18)
    (hrunning : s.bus.chipState ≠ .waitingSettings → 0x11 ≤ f.kind ∧ f.kind ≤ 0x18 →
      f.sender ∈ s.bus.managers) : s.filterFrame f = s.handOn f := by
  simp only [State.filterFrame, htaken, if_true]
  cases hchip : s.bus.chipState with
  | waitingSettings => simp [(takenWhileWaiting_iff _).mpr (hwaiting hchip)]
  | running =>
    simp only [hchip, ne_eq, reduceCtorEq, not_false_eq_true, forall_const] at hrunning
    refine if_neg fun hrefused => ?_
    rw [Bool.and_eq_true, needsManager_iff] at hrefused
    have hmember := hrunning hrefused.1
    simp [hmember] at hrefused

theorem State.handOn_short {n : Nat} (hlength : requiredLength f.kind = some n)
    (hshort : f.body.length < n) : s.handOn f = s.countBad := by
  simp [State.handOn, hlength, hshort]

theorem State.handOn_command {n : Nat} {c : Instr} (hlength : requiredLength f.kind = some n)
    (hlong : n ≤ f.body.length) (hcommand : f.command = some c) :
    s.handOn f = (s.modCounters (fun k => { k with taken := bump k.taken })).raise c := by
  simp [State.handOn, hlength, Nat.not_lt.mpr hlong, hcommand]

theorem State.handOn_none {n : Nat} (hlength : requiredLength f.kind = some n)
    (hlong : n ≤ f.body.length) (hcommand : f.command = none) :
    s.handOn f = (s.modCounters (fun k => { k with taken := bump k.taken })).post .bus f.sender
      (.declined (.query (field 0 1 f.body) (queryOfBytes f.body)) .badRange none) := by
  simp [State.handOn, hlength, Nat.not_lt.mpr hlong, hcommand]

end filter

/-- A QUERY spells a command by its subject (R60). -/
theorem ShelfFrame.command_query {f : ShelfFrame} (hkind : f.kind = 0x18) :
    ((∃ d, f.command = some d) ↔ field 0 1 f.body ≤ 2)
      ∧ (2 < field 0 1 f.body → f.command = none) := by
  simp only [ShelfFrame.command, hkind]
  generalize field 0 1 f.body = subject
  split
  · simp
  · simp
  · simp
  · next h0 h1 h2 =>
    have hbig : 2 < subject := by
      rcases subject with _ | _ | _ | n
      · exact (h0 rfl).elim
      · exact (h1 rfl).elim
      · exact (h2 rfl).elim
      · omega
    simp [hbig]

/-- Settles O23: the filter by the kind, the destination, the chip state and the manager set; then each
kind by its own row. -/
theorem framesAreFilteredAndHandedOn : Obligations.FramesAreFilteredAndHandedOn := by
  refine ⟨fun s bits f hup hseen hclash hread hother => ?_,
    fun s bits f hup hseen hclash hread hother hdest hkind hmember hlong => ?_, fun f => ?_⟩
  · intro c request peer forUs waiting
    rw [show exec c s = _ from exec_frameReceived_filter hup hseen hclash hread hother]
    have htaken : takenByKind s.bus.address f = true ↔ forUs := takenByKind_iff _ _
    refine ⟨fun hpassed => ?_, fun hfor hwaiting h10 h18 => ?_, fun hfor hrunning hrequest hmember => ?_,
      fun hfor hwaiting hrunning needed hneeded => ⟨fun hshort => ?_, fun hlong d hd => ?_⟩⟩
    · simp [State.filterFrame, show ¬ takenByKind s.bus.address f = true from fun h => hpassed (htaken.mp h)]
    · have hkept : takenWhileWaiting f.kind = false := by simp [takenWhileWaiting, h10, h18]
      simp [State.filterFrame, htaken.mpr hfor, show s.bus.chipState = _ from hwaiting, hkept]
    · have hchip : s.bus.chipState = .running := by
        cases hchip : s.bus.chipState with
        | waitingSettings => exact absurd hchip hrunning
        | running => rfl
      simp [State.filterFrame, htaken.mpr hfor, hchip, (needsManager_iff f.kind).mpr hrequest, hmember,
        bump, Config.counterMax]
    · rw [State.filterFrame_handOn (htaken.mpr hfor) hwaiting hrunning,
        State.handOn_short hneeded hshort]
      rfl
    · rw [State.filterFrame_handOn (htaken.mpr hfor) hwaiting hrunning,
        State.handOn_command hneeded hlong hd]
      rfl
  · intro subject
    obtain ⟨hspells, hnone⟩ := ShelfFrame.command_query hkind
    refine ⟨hspells, fun hunknown => ?_⟩
    have htaken : takenByKind s.bus.address f = true :=
      (takenByKind_iff _ _).mpr (.inl ⟨hdest, .inl (by omega)⟩)
    rw [exec_frameReceived_filter hup hseen hclash hread hother,
      State.filterFrame_handOn htaken (fun _ => .inr hkind)
        (fun hrunning _ => hmember.resolve_left hrunning),
      State.handOn_none (by rw [hkind]; rfl) hlong (hnone hunknown)]
    rfl
  · intro number serial query spells
    refine ⟨?_, ?_, ?_, ?_, ?_, ?_, ?_, ?_, ?_, ?_, ?_, fun hsubject => ?_, fun hsubject => ?_,
      fun hsubject => ?_, fun hkind => by rw [hkind]; rfl, fun hkind => ?_⟩
    case refine_3.refine_15 =>
      simp only [List.mem_cons, List.not_mem_nil, or_false, not_or] at hkind
      constructor
      · unfold requiredLength
        split <;> simp_all
      · unfold ShelfFrame.command
        dsimp only
        split <;> simp_all
    all_goals intro hkind
    case refine_3.refine_12 | refine_3.refine_13 | refine_3.refine_14 =>
      have hfield : field 0 1 f.body = _ := hsubject
      exact ⟨by rw [hkind]; rfl, by simp only [ShelfFrame.command, hkind, hfield] <;> rfl⟩
    all_goals exact ⟨by rw [hkind]; rfl, by simp only [ShelfFrame.command, hkind] <;> rfl⟩

/-! ### Queries (R42, R60 to R62) -/

theorem State.countIn_eq (s : State) (t : TreeId) (state : RecordState) :
    s.countIn t state = (allHomes.filter (fun h => decide ((s.record t h).state = state))).length := by
  rw [State.countIn, State.records, List.countP_map, List.countP_eq_length_filter]
  rfl

/-- The CR sum runs over the tiered records alone. -/
theorem State.crSum_filter (s : State) (t : TreeId) :
    s.crSum t = ((allHomes.filter (fun h => isTiered (s.record t h).state)).map
      (fun h => (s.ratesOf (s.record t h)).cr)).sum := by
  rw [State.crSum, State.records, List.map_map]
  induction allHomes with
  | nil => rfl
  | cons h l ih =>
    rw [List.map_cons, List.sum_cons, ih, List.filter_cons]
    split <;> simp_all

/-- A timer is shown while it runs. -/
theorem shownTimer_eq (timer : Option Nat) :
    shownTimer timer = if timer = some 0 then none else timer := by
  rcases timer with _ | n
  · rfl
  · by_cases hn : n = 0 <;> simp [shownTimer, hn]

theorem exec_queryHome {s : State} {sender : Nat} {q : QueryBody} (hup : s.inReset = none)
    (hanswers : s.answersQuery (.queryHome sender q) sender = true) :
    (∀ t h, s.queriedHome q = .ok (t, h) → exec (.queryHome sender q) s =
      .next ((s.take (.queryHome sender q)).post .enrolment sender
        (.status (.query 2 q) (.home (s.homeStatus t h)))))
    ∧ ∀ reason, s.queriedHome q = .error reason → exec (.queryHome sender q) s =
      .next ((s.take (.queryHome sender q)).post .enrolment sender
        (.declined (.query 2 q) reason none)) := by
  have hsame : (s.take (.queryHome sender q)).queriedHome q = s.queriedHome q := rfl
  constructor
  · intro t h hfound
    simp only [exec, execQueryHome, State.whileUp_up hup, hanswers, if_true, hsame, hfound]
    rfl
  · intro reason hfound
    simp only [exec, execQueryHome, State.whileUp_up hup, hanswers, if_true, hsame, hfound]

/-- Settles O26: each query is answered from the state, or declined with its reason. -/
theorem queriesAreAnsweredFromTheState : Obligations.QueriesAreAnsweredFromTheState := by
  refine ⟨fun s sender q hup hanswers => ?_, fun s sender q hup hanswers => ?_,
    fun s sender q hup hanswers => ?_⟩
  · intro held
    simp only [exec, execQueryChip, State.whileUp_up hup, hanswers, if_true]
    simp only [State.chipStatus, State.countClass, List.countP_eq_length_filter]
    rfl
  · intro c
    have hexec : exec c s = .next (if ht : q.tree < 4 then
        (s.take c).post .bus sender (.status (.query 1 q) (.tree ((s.take c).treeStatus ⟨q.tree, ht⟩)))
        else (s.take c).post .bus sender (.declined (.query 1 q) .badRange none)) := by
      simp only [exec, c, execQueryTree, State.whileUp_up hup, hanswers, if_true]
    rw [hexec]
    refine ⟨fun hbig => by rw [dif_neg (by omega)], ?_⟩
    intro t ht tr inState
    have hlt : q.tree < 4 := ht ▸ t.isLt
    rw [dif_pos hlt, show (⟨q.tree, hlt⟩ : TreeId) = t from Fin.ext ht.symm]
    simp only [State.treeStatus, State.crSum_filter, List.map_cons, List.map_nil,
      State.countIn_eq, List.countP_eq_length_filter]
    rfl
  · intro c answered declined
    obtain ⟨hok, herror⟩ := exec_queryHome hup hanswers
    have hanswered : ∀ t h, s.queriedHome q = .ok (t, h) → exec c s = .next (answered t h) :=
      fun t h hfound => by
        rw [show exec c s = _ from hok t h hfound, State.homeStatus, shownTimer_eq]
    refine ⟨fun hform t h ht hh => ⟨fun henabled => hanswered t h ?_, fun hdisabled => herror _ ?_⟩,
      fun hform hbig => herror _ ?_, fun hform => ⟨fun t h hfound => hanswered t h ?_,
        fun hnowhere => herror _ ?_⟩, fun hform => herror _ ?_⟩
    · simp [State.queriedHome, hform, ← ht, ← hh, henabled]
    · simp [State.queriedHome, hform, ← ht, ← hh, hdisabled]
    · simp only [State.queriedHome, hform]
      rcases hbig with hbig | hbig
      · rw [dif_neg (by omega)]
      · split
        · rw [dif_neg (by omega)]
        · rfl
    · simp [State.queriedHome, hform, hfound]
    · simp [State.queriedHome, hform, hnowhere]
    · unfold State.queriedHome
      split
      · omega
      · omega
      · rfl

end Sys2Proof.Machine
end

section
/-! SUPPORT. Reset, the round opening and the start (chapters 1 and 10): the statements O29, O30, O32 and
O53. -/

namespace Sys2Proof.Machine

/-- Settles O53: a step is the front command's own meaning. -/
theorem frontCommandIsCarriedOut : Obligations.FrontCommandIsCarriedOut := by
  refine ⟨fun c rest s => rfl, fun s hempty => ?_⟩
  rw [step, hempty]

/-! ### Reset -/

@[simp] theorem tree_afterReset (cause : ResetCause) (address : Nat) (t : TreeId) :
    (State.afterReset cause address).trees.get t = Tree.reset := by
  simp [State.afterReset, Vector.get]

theorem home_treeReset (h : HomeIdx) : Tree.reset.home h = Home.reset := by
  simp [Tree.reset, Tree.home, Vector.get]

theorem addressOf_eq (straps : Fin 32) :
    addressOf straps = if straps.val = 31 then 30 else straps.val := by
  unfold addressOf
  split <;> omega

/-- Settles O29: a reset's beginning touches the transmit queue and the taken frames, its end sets every
block's values. -/
theorem resetsBeginAndEnd : Obligations.ResetsBeginAndEnd := by
  refine ⟨fun s => ?_, fun s straps => ⟨fun hnone => ?_, fun cause hcause => ?_⟩⟩
  · intro begun
    exact ⟨rfl, fun hpin => congrArg _ (if_neg hpin), fun hpower => congrArg _ (if_pos hpower)⟩
  · simp only [exec, execResetEnd, hnone]
  · refine ⟨{ State.afterReset cause (addressOf straps) with
        pending := s.pending, outputs := s.outputs }, by simp only [exec, execResetEnd, hcause],
      rfl, rfl, rfl, rfl, rfl, rfl, rfl, by rw [← addressOf_eq]; rfl, rfl, rfl, rfl, rfl, fun t => ?_⟩
    simp only [State.home, State.tree, tree_afterReset, home_treeReset]
    exact ⟨fun _ => rfl, rfl, rfl, rfl, rfl, rfl, rfl, rfl, rfl, rfl, rfl⟩

/-! ### The round opening -/

/-- Settles O32: each block's part of the opening, one field at a time. -/
theorem roundOpeningAdvancesEveryTimer : Obligations.RoundOpeningAdvancesEveryTimer := by
  intro s hup round less
  have hopen : exec .roundOpening s = .next s.openRound := State.whileUp_up hup _
  have hshare : s.share.atOpening s.running = { s.share with
      epoch := if s.running then (s.share.epoch + 1) % 32 else s.share.epoch } := by
    unfold ShareUnit.atOpening
    cases s.running <;> rfl
  rw [hopen, State.openRound, hshare]
  congr 2
  refine congrArg tabulate (funext fun t => ?_)
  have hmarks : (s.tree t).marks.filter (fun m => !decide (roundAdd m.round 2 = roundAdd s.round 1))
      = (s.tree t).marks.filter (fun m => decide ((m.round + 2) % 65536 ≠ round)) :=
    List.filter_congr fun m _ => (decide_not).symm
  rw [Tree.atOpening, hmarks]
  cases (s.tree t).light <;> rfl

/-! ### SETTINGS and HELLO -/

/-- CHIP_MAX counts the trees themselves: `chipMaxOf` reads their numbers through a coerced list. -/
theorem chipMaxOf_eq (enabled : BitVec 4) :
    chipMaxOf enabled = 3960 * (allTrees.filter (fun t => enabled.getLsbD t.val)).length := by
  have hnumbers : (do let t ← allTrees; pure t.val : List Nat) = allTrees.map Fin.val := rfl
  rw [chipMaxOf, hnumbers, List.filter_map, List.length_map]
  rfl

theorem exec_settings {s : State} {sender : Nat} (raw : Settings) (hup : s.inReset = none) :
    exec (.settings sender raw) s = .next
      (if s.hears sender && decide (sender ≤ 30) then
        if s.bus.chipState = .waitingSettings then
          (s.take (.settings sender raw)).acceptSettings sender raw
        else (s.take (.settings sender raw)).post .bus sender
          (.declined .settings .locked s.bus.settings)
      else s.take (.settings sender raw)) := by
  refine (State.whileUp_up hup _).trans ?_
  cases hchip : s.bus.chipState <;> rfl

/-- Settles O30: acceptance and refusal by the chip state, and the HELLO of the countdown. -/
theorem settingsStartTheChipOnce : Obligations.SettingsStartTheChipOnce := by
  refine ⟨fun s sender raw hup hwaiting hle hother => ?_,
    fun s sender raw hup => ⟨fun hrunning hle hother => ?_, fun hdeaf => ?_⟩,
    fun s hup => ⟨fun hzero => ?_, fun hmore => ?_⟩⟩
  · intro c d trees started
    have hshare : initialShare c = min (3960 * trees) (c.capacity / 31) := by
      rw [initialShare, chipMaxOf_eq]
      rfl
    have hstarted : (s.take d).enterRunning sender c = started := by
      rw [State.enterRunning, hshare]
      rfl
    have hheard : (s.hears sender && decide (sender ≤ 30)) = true := by simp [State.hears, hother, hle]
    rw [show exec d s = _ from exec_settings raw hup, if_pos hheard, if_pos hwaiting]
    change Host.Outcome.next ((((s.take d).enterRunning sender c).post .bus sender
      (.accepted .settings (some c))).postHello) = _
    rw [hstarted, State.postHello]
    obtain ⟨hchip, hcause, haddress, -⟩ :=
      (started.post_onlyPosts (p := .bus) (d := sender) (m := .accepted .settings (some c))).1.2.1
    rw [hchip, hcause, haddress, State.post_round]
    rfl
  · have hheard : (s.hears sender && decide (sender ≤ 30)) = true := by simp [State.hears, hother, hle]
    rw [exec_settings raw hup, if_pos hheard, hrunning, if_neg (by decide)]
  · have hdeaf' : ¬ (s.hears sender && decide (sender ≤ 30)) = true := by
      rw [Bool.and_eq_true, State.hears, decide_eq_true_iff, decide_eq_true_iff]
      omega
    rw [exec_settings raw hup, if_neg hdeaf']
  · exact (State.whileUp_up hup _).trans (congrArg _ (if_pos hzero))
  · exact (State.whileUp_up hup _).trans (congrArg _ (if_neg hmore))

end Sys2Proof.Machine
end

section
/-! SUPPORT. The state at the end of a reset meets what every step keeps: the statement O60, and the case
RESET_END of the step statements. -/

namespace Sys2Proof.Machine

/-- The state that a RESET_END answers: the model's own queue and outputs stand beside the reset values
(R172). -/
def State.resetTo (cause : ResetCause) (address : Nat) (pending : List Instr) (outputs : List Output) :
    State :=
  { State.afterReset cause address with pending := pending, outputs := outputs }

theorem exec_resetEnd {s : State} {cause : ResetCause} (straps : Fin 32)
    (hreset : s.inReset = some cause) : exec (.resetEnd straps) s =
      .next (.resetTo cause (addressOf straps) s.pending s.outputs) := by
  simp only [exec, execResetEnd, hreset]
  rfl

section reset
variable (cause : ResetCause) (address : Nat) (pending : List Instr) (outputs : List Output)

@[simp] theorem tree_resetTo (t : TreeId) :
    (State.resetTo cause address pending outputs).tree t = Tree.reset :=
  tree_afterReset cause address t

@[simp] theorem home_resetTo (t : TreeId) (h : HomeIdx) :
    (State.resetTo cause address pending outputs).home t h = Home.reset := by
  rw [State.home, tree_resetTo, home_treeReset]

@[simp] theorem record_resetTo (t : TreeId) (h : HomeIdx) :
    (State.resetTo cause address pending outputs).record t h = HomeRecord.reset := by
  rw [State.record, home_resetTo]
  rfl

@[simp] theorem enabled_resetTo (t : TreeId) :
    (State.resetTo cause address pending outputs).enabled t = false := rfl

theorem chipInv_resetTo (haddress : address ≤ 30) :
    ChipInv (State.resetTo cause address pending outputs) where
  round := (by decide : 0 < 65536)
  queuePlaces := (by decide : 1 ≤ 16)
  clashes := fun e he => by
    rw [List.mem_singleton.mp he]
    exact (by decide : 0 < 16)
  oneOnLine := (by decide : 0 ≤ 1)
  address := haddress
  managers := ⟨List.nodup_nil, Nat.zero_le _, fun _ hm => absurd hm List.not_mem_nil⟩
  epoch := (by decide : 0 < 32)
  peers := ⟨List.nodup_nil, Nat.zero_le _, fun _ hp => absurd hp List.not_mem_nil⟩
  share := ⟨Nat.zero_le _, Nat.zero_le _⟩
  own := fun _ howed => by cases howed
  waiting := fun _ => ⟨rfl, rfl, rfl, rfl, rfl, rfl⟩
  running := fun hrunning => by cases hrunning

theorem placesInv_resetTo : PlacesInv (State.resetTo cause address pending outputs) where
  words := fun t => by simp [Tree.reset]
  plans := fun t => by simp [Tree.reset]
  taken := fun t => by simp [Tree.reset]
  lineRoom := fun t => by simp [Tree.reset]
  settled := fun t w hopen => by simp [Tree.reset] at hopen

theorem meterInv_resetTo : MeterInv (State.resetTo cause address pending outputs) where
  places := ⟨Nat.zero_le _, Nat.zero_le _⟩
  tags := ⟨List.nodup_nil, fun _ he => absurd he List.not_mem_nil⟩
  nextTag := ⟨Nat.le_refl 1, (by decide : 1 ≤ 255), fun _ he => absurd he List.not_mem_nil⟩
  usage := fun _ he => absurd he List.not_mem_nil
  departed := fun _ he => absurd he List.not_mem_nil
  marks := fun _ hd => absurd hd List.not_mem_nil
  held := fun t h x tag husage => by simp [Home.reset] at husage
  unmarked := Nat.zero_le _

/-- A FREE record that has never been allocated meets the bounds of a home. -/
theorem homeInv_reset : HomeInv Home.reset where
  present := by decide
  tiered := by decide
  active := by decide
  beside := by decide
  timer := by decide
  delay := fun _ _ hrtt => by cases hrtt
  generation := by decide
  contested := fun _ h => by cases h
  score := fun _ h => by cases h
  trimHold := fun _ h => by cases h
  backlog := fun _ h => by rcases h with h | h <;> cases h
  levels := fun _ h => by rcases h with h | h <;> cases h

theorem crSum_resetTo (t : TreeId) : (State.resetTo cause address pending outputs).crSum t = 0 := by
  rw [State.crSum, State.records, List.map_map]
  refine List.sum_eq_zero fun n hn => ?_
  obtain ⟨h, -, rfl⟩ := List.mem_map.mp hn
  rw [Function.comp_apply, record_resetTo]
  rfl

theorem tableInv_resetTo : TableInv (State.resetTo cause address pending outputs) where
  settings := ⟨fun hrunning => (by cases hrunning), fun hsettings => (by cases hsettings)⟩
  homes := fun t h => by rw [home_resetTo]; exact homeInv_reset
  serials := List.nodup_nil
  index := fun serial t h => by
    rw [record_resetTo]
    exact ⟨fun hm => absurd hm List.not_mem_nil, fun hheld => absurd rfl hheld.1⟩
  admitted := fun t => by rw [crSum_resetTo]; exact Nat.zero_le _
  silence := fun t h n hn => by rw [record_resetTo] at hn; cases hn
  polls := fun t h n hn => by rw [record_resetTo] at hn; cases hn
  relapses := fun t h n hn => by rw [record_resetTo] at hn; cases hn
  outcomes := fun t v o hv => by rw [tree_resetTo] at hv; cases hv
  undos := fun t h g o r hm => absurd hm List.not_mem_nil
  off := fun t => by simp [Tree.reset]
  disabled := fun t _ => by simp [Tree.reset, HomeRecord.reset]

theorem watchInv_resetTo : WatchInv (State.resetTo cause address pending outputs) where
  searching := fun t d hd => by rw [tree_resetTo] at hd; cases hd
  others := fun t _ h => by rw [record_resetTo]; rfl
  verifying := fun t v hv => by rw [tree_resetTo] at hv; cases hv

end reset

/-- Settles O60: the reset state is that of a power-on reset with the straps at 0. -/
theorem resetMeetsTheInvariants : Obligations.ResetMeetsTheInvariants :=
  ⟨chipInv_resetTo .power 0 [] [] (Nat.zero_le _), placesInv_resetTo .power 0 [] [],
    meterInv_resetTo .power 0 [] [], tableInv_resetTo .power 0 [] [], watchInv_resetTo .power 0 [] []⟩

end Sys2Proof.Machine
end

section
/-! SUPPORT. District share (chapter 6): the statements O46 and O47. -/

namespace Sys2Proof.Machine

/-! ### The cut of a share (R116, R117) -/

/-- Parts cut by proportion and rounded down sum to at most the part of the whole. -/
theorem sum_map_div_le {α : Type} (k m : Nat) (f : α → Nat) (l : List α) :
    (l.map (fun x => k * f x / m)).sum ≤ k * (l.map f).sum / m := by
  induction l with
  | nil => simp
  | cons x l ih =>
    rw [List.map_cons, List.sum_cons, List.map_cons, List.sum_cons, Nat.mul_add]
    exact (Nat.add_le_add_left ih _).trans Nat.div_add_div_le_add_div

section share
variable {d sumC sumE n c e : Nat}

theorem shareBefore_scaled (hover : d ≤ sumC) : shareBefore d sumC sumE n c e = d * c / sumC :=
  if_pos hover

theorem shareBefore_excess (hunder : sumC < d) (hwant : 0 < sumE) :
    shareBefore d sumC sumE n c e = c + (d - sumC) * e / sumE :=
  (if_neg (Nat.not_le.mpr hunder)).trans (if_pos hwant)

theorem shareBefore_even (hunder : sumC < d) (hwant : sumE = 0) :
    shareBefore d sumC sumE n c e = c + (d - sumC) / n :=
  (if_neg (Nat.not_le.mpr hunder)).trans (if_neg (by omega))

/-- Where the shelf's committed demand is below the capacity, no share is below the chip's own. -/
theorem le_shareBefore (hunder : sumC < d) : c ≤ shareBefore d sumC sumE n c e := by
  rcases Nat.eq_zero_or_pos sumE with hwant | hwant
  · exact (Nat.le_add_right _ _).trans_eq (shareBefore_even hunder hwant).symm
  · exact (Nat.le_add_right _ _).trans_eq (shareBefore_excess hunder hwant).symm

/-- A chip alone on its shelf gets the whole capacity. -/
theorem shareBefore_alone (hd : 0 < d) : shareBefore d c e 1 c e = d := by
  rcases Nat.lt_or_ge c d with hunder | hover
  · rcases Nat.eq_zero_or_pos e with hwant | hwant
    · rw [shareBefore_even hunder hwant]
      omega
    · rw [shareBefore_excess hunder hwant, Nat.mul_div_cancel _ hwant]
      omega
  · rw [shareBefore_scaled hover, Nat.mul_div_cancel _ (by omega)]

end share

/-- Shares cut from the same figures keep to the capacity together. -/
theorem sum_shareBefore_le (d : Nat) (chips : List (Nat × Nat)) (hd : 0 < d) :
    (chips.map (fun x => shareBefore d (chips.map Prod.fst).sum (chips.map Prod.snd).sum chips.length
      x.1 x.2)).sum ≤ d := by
  generalize hsumC : (chips.map Prod.fst).sum = sumC
  generalize hsumE : (chips.map Prod.snd).sum = sumE
  rcases Nat.lt_or_ge sumC d with hunder | hover
  · rcases Nat.eq_zero_or_pos sumE with hwant | hwant
    · simp only [shareBefore_even hunder hwant, List.sum_map_add, hsumC]
      have hparts := Nat.mul_div_le (d - sumC) chips.length
      simp only [List.map_const', List.sum_replicate, smul_eq_mul]
      omega
    · simp only [shareBefore_excess hunder hwant, List.sum_map_add, hsumC]
      have hparts := sum_map_div_le (d - sumC) sumE Prod.snd chips
      rw [hsumE, Nat.mul_div_cancel _ hwant] at hparts
      omega
  · simp only [shareBefore_scaled hover]
    have hparts := sum_map_div_le d sumC Prod.fst chips
    rwa [hsumC, Nat.mul_div_cancel _ (by omega)] at hparts

/-- Settles O47: each share is one of the parts that keep to the capacity together. -/
theorem sharesKeepToTheDistrict : Obligations.SharesKeepToTheDistrict := by
  intro d chips hd sumC sumE share
  have htogether : (chips.map share).sum ≤ d := sum_shareBefore_le d chips hd
  refine ⟨htogether, fun x hx => ?_, fun x halone => ?_, fun hunder x _ => le_shareBefore hunder⟩
  · exact (List.single_le_sum (fun _ _ => Nat.zero_le _) _ (List.mem_map_of_mem hx)).trans htogether
  · have hsumC : sumC = x.1 := by simp [sumC, halone]
    have hsumE : sumE = x.2 := by simp [sumE, halone]
    have hone : chips.length = 1 := by rw [halone]; rfl
    change shareBefore d sumC sumE chips.length x.1 x.2 = d
    rw [hsumC, hsumE, hone]
    exact shareBefore_alone hd

/-! ### The peer table (R113 to R115) -/

theorem refreshPeer_new {chipMax address c e : Nat} {peers : List Peer}
    (hnew : ∀ p ∈ peers, p.address ≠ address) : refreshPeer chipMax address c e peers = peers ++
      [{ address := address, committed := min c chipMax, excess := min e chipMax, age := 0 }] := by
  refine if_neg fun hheld => ?_
  obtain ⟨p, hp, haddress⟩ := List.any_eq_true.mp hheld
  exact hnew p hp (of_decide_eq_true haddress)

/-- Entries of other stations stand. -/
theorem map_refresh_others {address : Nat} {new : Peer} {peers : List Peer}
    (hothers : ∀ p ∈ peers, p.address ≠ address) :
    peers.map (fun p => if p.address = address then new else p) = peers :=
  (List.map_congr_left fun p hp => if_neg (hothers p hp)).trans (List.map_id _)

theorem refreshPeer_held {chipMax address c e : Nat} {before after : List Peer} {p : Peer}
    (hp : p.address = address) (hothers : ∀ q ∈ before ++ after, q.address ≠ address) :
    refreshPeer chipMax address c e (before ++ p :: after) = before ++
      { address := address, committed := min c chipMax, excess := min e chipMax, age := 0 } :: after := by
  have hheld : (before ++ p :: after).any (fun q => decide (q.address = address)) = true :=
    List.any_eq_true.mpr ⟨p, by simp, decide_eq_true hp⟩
  rw [refreshPeer, if_pos hheld, List.map_append, List.map_cons, if_pos hp,
    map_refresh_others fun q hq => hothers q (List.mem_append_left _ hq),
    map_refresh_others fun q hq => hothers q (List.mem_append_right _ hq)]

theorem agePeers_eq (peers : List Peer) : agePeers peers =
    (peers.filter (fun p => decide (p.age < 3))).map (fun p => { p with age := p.age + 1 }) := by
  rw [agePeers, List.filter_map]
  refine congrArg _ (List.filter_congr fun p _ => ?_)
  exact decide_eq_decide.mpr (Nat.add_lt_add_iff_right (k := 1) (m := 3))

theorem State.chipMax_eq (s : State) :
    s.chipMax = 3960 * (allTrees.filter (fun t => s.cfg.enabled.getLsbD t.val)).length :=
  chipMaxOf_eq _

/-! ### DEMAND and EPOCH_END -/

theorem exec_demandReceived {s : State} (peer committed excess homes : Nat) (hup : s.inReset = none) :
    exec (.demandReceived peer committed excess homes) s = .next
      (if s.hearsPeer peer && decide (peer ≤ 30) then
        { s.take (.demandReceived peer committed excess homes) with share := { s.share with
            peers := refreshPeer s.chipMax peer committed excess s.share.peers } }
      else s.take (.demandReceived peer committed excess homes)) :=
  State.whileUp_up hup _

theorem exec_epochEnd {s : State} (hup : s.inReset = none) :
    exec .epochEnd s = .next (if s.epochDue && s.running then s.endEpoch else s) :=
  State.whileUp_up hup _

/-- Settles O46: the peer table by what it holds of the sender, the epoch end from the aged table. -/
theorem demandsAndEpochEndsSetTheShare : Obligations.DemandsAndEpochEndsSetTheShare := by
  intro s hup chipMax
  have hmax : s.chipMax = chipMax := s.chipMax_eq
  refine ⟨fun peer committed excess homes => ?_, fun hnotDue => ?_, fun hdue hrunning => ?_⟩
  · intro c new kept
    refine ⟨fun hhears hle => ?_, fun hdeaf => ?_⟩
    · have hheard : (s.hearsPeer peer && decide (peer ≤ 30)) = true := by simp [hhears, hle]
      have hexec : exec c s =
          .next (kept (refreshPeer chipMax peer committed excess s.share.peers)) := by
        rw [show exec c s = _ from exec_demandReceived peer committed excess homes hup, if_pos hheard,
          hmax]
      refine ⟨fun hnew => ?_, fun before after p hpeers hp hothers => ?_⟩
      · rw [hexec, refreshPeer_new hnew]
      · rw [hexec, hpeers, refreshPeer_held hp hothers]
    · have hdeaf' : ¬ (s.hearsPeer peer && decide (peer ≤ 30)) = true := by
        rw [Bool.and_eq_true, decide_eq_true_iff]
        rintro ⟨hhears, hle⟩
        rcases hdeaf with hdeaf | hbig
        · exact absurd (hhears.symm.trans hdeaf) (by decide)
        · omega
      exact (exec_demandReceived peer committed excess homes hup).trans (by rw [if_neg hdeaf'])
  · have hidle : ¬ (s.epochDue && s.running) = true := by
      rcases hnotDue with h | h <;> simp [h]
    rw [exec_epochEnd hup, if_neg hidle]
  · intro peers active c e sumC sumE d share
    have hpeers : agePeers s.share.peers = peers := agePeers_eq _
    have hown : s.ownDemand = ⟨c, e, active.length⟩ := by
      rw [State.ownDemand, hmax]
      rfl
    have hshare : s.newShare peers ⟨c, e, active.length⟩ = min share chipMax := by
      rw [State.newShare, hmax]
      rfl
    rw [exec_epochEnd hup, hdue, hrunning, Bool.and_self, if_pos rfl, State.endEpoch, hpeers, hown,
      hshare]
    rfl

end Sys2Proof.Machine
end

section
/-! SUPPORT. The Meter's counts, commits and merge-backs (chapters 8 and 9): the statements O48, O51 and
O52. -/

namespace Sys2Proof.Machine

/-! ### A usage entry set and evaluated (R151, R152) -/

section usage
variable (s : State) (t : TreeId) (h : HomeIdx)

theorem State.modHome_congr {f g : Home → Home} (hfg : f (s.home t h) = g (s.home t h)) :
    s.modHome t h f = s.modHome t h g :=
  State.modTree_congr (Tree.modHome_congr _ _ hfg)

theorem State.modTree_modTree (f g : Tree → Tree) :
    (s.modTree t f).modTree t g = s.modTree t (fun tr => g (f tr)) := by
  simp only [State.modTree, State.tree, get_vectorSet_self, Vector.set_set]

theorem State.modHome_modHome (f g : Home → Home) :
    (s.modHome t h f).modHome t h g = s.modHome t h (fun x => g (f x)) := by
  rw [State.modHome, State.modHome, State.modTree_modTree]
  exact State.modTree_congr (Tree.modHome_modHome _ _ _ _)

/-- A change of the entry a home holds is that entry set. -/
theorem State.modUsage_some {x : UsageEntry} (f : UsageEntry → UsageEntry)
    (hx : (s.home t h).usage = some x) :
    s.modUsage t h f = s.modHome t h (fun y => { y with usage := some (f x) }) :=
  s.modHome_congr t h (by simp [hx])

/-- The home with the usage entry given. -/
def State.withUsage (x : UsageEntry) : State := s.modHome t h (fun y => { y with usage := some x })

@[simp] theorem State.withUsage_home (x : UsageEntry) :
    (s.withUsage t h x).home t h = { s.home t h with usage := some x } := by
  simp [State.withUsage]

@[simp] theorem State.withUsage_record (x : UsageEntry) :
    (s.withUsage t h x).record t h = s.record t h := by
  simp [State.record]

@[simp] theorem State.withUsage_quotaTotal (x : UsageEntry) :
    (s.withUsage t h x).quotaTotal t h = s.unitsHeld t h x := by
  simp only [State.quotaTotal, State.withUsage_home]
  rfl

theorem State.withUsage_quotaReached (x : UsageEntry) : (s.withUsage t h x).quotaReached t h =
    (decide (0 < (s.record t h).quota.getD 0)
      && decide ((s.record t h).quota.getD 0 ≤ s.unitsHeld t h x)) := by
  rw [State.quotaReached, State.withUsage_record, State.withUsage_quotaTotal]
  cases (s.record t h).quota <;> rfl

theorem State.withUsage_quotaNotice (x : UsageEntry) : (s.withUsage t h x).quotaNotice t h =
    { serial := (s.record t h).serial.getD 0, tree := t, home := h
      generation := (s.record t h).generation, interval := x.interval
      quota := (s.record t h).quota.getD 0, total := s.unitsHeld t h x, round := s.round } := by
  simp only [State.quotaNotice, State.withUsage_record, State.withUsage_home,
    State.withUsage_quotaTotal]
  rfl

/-- The evaluation of a quota after the usage entry is set. -/
theorem State.evaluateQuota_withUsage (x : UsageEntry) :
    (s.withUsage t h x).evaluateQuota t h = s.evaluatedWith t h x := by
  rw [State.evaluateQuota, State.evaluatedWith, State.withUsage_quotaReached,
    State.withUsage_record, State.withUsage_quotaNotice]
  by_cases hset : (s.record t h).throttled = some false ∧ 0 < (s.record t h).quota.getD 0
      ∧ (s.record t h).quota.getD 0 ≤ s.unitsHeld t h x
  · rw [if_pos hset, if_pos (by simpa [and_assoc, and_comm, and_left_comm] using hset)]
    rfl
  · rw [if_neg hset, if_neg (by simpa [and_assoc, and_comm, and_left_comm] using hset)]
    rfl

/-! ### Bytes (R146 to R148) -/

theorem State.countUp_none (bytes : Nat) (hnone : (s.home t h).usage = none) :
    s.countUp t h bytes = s := by
  rw [State.countUp, hnone]

theorem State.countDown_none (bytes : Nat) (hnone : (s.home t h).usage = none) :
    s.countDown t h bytes = s := by
  rw [State.countDown, hnone]

theorem State.countUp_some {x : UsageEntry} (bytes : Nat) (hx : (s.home t h).usage = some x) :
    s.countUp t h bytes = if 1 ≤ (x.residueUp + bytes) / s.unitBytes
      then s.evaluatedWith t h (x.countUp s.unitBytes bytes)
      else s.withUsage t h (x.countUp s.unitBytes bytes) := by
  simp only [State.countUp, hx]
  rw [s.modUsage_some t h _ hx, ← State.evaluateQuota_withUsage]
  rfl

theorem State.countDown_some {x : UsageEntry} (bytes : Nat) (hx : (s.home t h).usage = some x) :
    s.countDown t h bytes = if 1 ≤ (x.residueDown + bytes) / s.unitBytes
      then s.evaluatedWith t h (x.countDown s.unitBytes bytes)
      else s.withUsage t h (x.countDown s.unitBytes bytes) := by
  simp only [State.countDown, hx]
  rw [s.modUsage_some t h _ hx, ← State.evaluateQuota_withUsage]
  rfl

end usage

/-- Settles O48: whole units are evaluated, and less than a unit only moves the residue. -/
theorem bytesAreCountedInUnits : Obligations.BytesAreCountedInUnits := by
  intro s t h bytes unit
  have hunit : 0 < unit := Nat.pow_pos (by decide)
  have hwhole : ∀ n, 1 ≤ n / unit ↔ unit ≤ n := fun n => Nat.one_le_div_iff hunit
  refine ⟨fun hnone => ⟨s.countUp_none t h bytes hnone, s.countDown_none t h bytes hnone⟩,
    fun x hx => ?_⟩
  intro up down
  refine ⟨fun hless => ?_, fun hmore => ?_, fun hless => ?_, fun hmore => ?_⟩
  · exact (s.countUp_some t h bytes hx).trans (if_neg ((hwhole _).not.mpr (Nat.not_le.mpr hless)))
  · exact (s.countUp_some t h bytes hx).trans (if_pos ((hwhole _).mpr hmore))
  · exact (s.countDown_some t h bytes hx).trans (if_neg ((hwhole _).not.mpr (Nat.not_le.mpr hless)))
  · exact (s.countDown_some t h bytes hx).trans (if_pos ((hwhole _).mpr hmore))

/-! ### One snapshot record (R168, R169) -/

section record
variable {s : State} {serial : Serial} {t : TreeId} {h : HomeIdx} {generation interval : Nat}
  {k : Counters} {x : UsageEntry}

theorem State.stillHolds_iff (s : State) (t : TreeId) (h : HomeIdx) (generation : Nat) :
    s.stillHolds t h generation = true ↔
      (s.record t h).generation = generation ∧ isTiered (s.record t h).state = true := by
  simp [State.stillHolds]

theorem State.commitRecord_held (hgen : (s.record t h).generation = generation)
    (htiered : isTiered (s.record t h).state = true) (hx : (s.home t h).usage = some x) :
    s.commitRecord (.taken serial t h generation interval k) =
      (s.withUsage t h { x with interval := (x.interval + 1) % 65536, inSnapshot := none }).reviewQuota
        t h := by
  rw [State.commitRecord, if_pos ((s.stillHolds_iff t h generation).mpr ⟨hgen, htiered⟩),
    s.modUsage_some t h _ hx]
  rfl

theorem Count.merge_eq (c r : Count) : c.merge r = c.regains r := by
  rw [Count.merge, Count.regains, Count.add]
  split <;> rename_i hfull
  · have hmin : min (c.val + r.val) 4294967295 = 4294967295 := Nat.min_eq_right (Nat.le_of_lt hfull)
    rw [hmin, decide_eq_true (show 4294967295 < c.val + r.val from hfull), Bool.or_true]
    rfl
  · have hmin : min (c.val + r.val) 4294967295 = c.val + r.val := Nat.min_eq_left (Nat.not_lt.mp hfull)
    rw [hmin, decide_eq_false (show ¬ 4294967295 < c.val + r.val from hfull), Bool.or_false]

theorem Counters.merge_eq (c r : Counters) : c.merge r =
    { up := c.up.regains r.up, down := c.down.regains r.down
      activeRounds := c.activeRounds.regains r.activeRounds
      throttledRounds := c.throttledRounds.regains r.throttledRounds
      impairedRounds := c.impairedRounds.regains r.impairedRounds } := by
  simp only [Counters.merge, Count.merge_eq]

theorem State.mergeRecord_held (hgen : (s.record t h).generation = generation)
    (htiered : isTiered (s.record t h).state = true) (hx : (s.home t h).usage = some x) :
    s.mergeRecord (.taken serial t h generation interval k) =
      s.evaluatedWith t h { x with inSnapshot := none, counters := x.counters.merge k } := by
  rw [State.mergeRecord, if_pos ((s.stillHolds_iff t h generation).mpr ⟨hgen, htiered⟩),
    s.modUsage_some t h _ hx, ← State.evaluateQuota_withUsage]
  rfl

theorem State.commitRecord_gone
    (hgone : (s.record t h).generation ≠ generation ∨ isTiered (s.record t h).state = false) :
    s.commitRecord (.taken serial t h generation interval k) = s := by
  refine if_neg fun hheld => ?_
  obtain ⟨hgen, htiered⟩ := (s.stillHolds_iff t h generation).mp hheld
  exact hgone.elim (fun hne => hne hgen) (fun hfalse => absurd (htiered.symm.trans hfalse) (by decide))

theorem State.mergeRecord_gone
    (hgone : (s.record t h).generation ≠ generation ∨ isTiered (s.record t h).state = false) :
    s.mergeRecord (.taken serial t h generation interval k) = s.modMeter (·.append
      { serial := serial, tree := t, home := h, generation := generation, reason := .merged
        interval := interval, counters := k, mark := none }) := by
  refine if_neg fun hheld => ?_
  obtain ⟨hgen, htiered⟩ := (s.stillHolds_iff t h generation).mp hheld
  exact hgone.elim (fun hne => hne hgen) (fun hfalse => absurd (htiered.symm.trans hfalse) (by decide))

end record

/-! ### The departed list (R155) -/

section departed
variable {m : Meter} {d x : DepartedRecord} {older newer : List DepartedRecord}

theorem Meter.append_room (d : DepartedRecord) (hroom : m.departed.length < 32) :
    m.append d = { m with departed := m.departed ++ [d] } :=
  if_pos hroom

theorem Meter.append_full (d : DepartedRecord) (hdeparted : m.departed = older ++ x :: newer)
    (hfull : 32 ≤ m.departed.length) (hx : x.mark = none) (hold : ∀ y ∈ older, y.mark ≠ none) :
    m.append d = { m with departed := older ++ newer ++ [d]
                          departedLoss := min (m.departedLoss + 1) 4294967295 } := by
  have hany : m.departed.any (fun y => y.mark.isNone) = true :=
    List.any_eq_true.mpr ⟨x, by simp [hdeparted], by simp [hx]⟩
  have herase : m.departed.eraseP (fun y => y.mark.isNone) = older ++ newer := by
    rw [hdeparted, List.eraseP_append_right _ (by simpa using hold), List.eraseP_cons_of_pos (by simp [hx])]
  have hplaces : ¬ m.departed.length < Config.departedPlaces := Nat.not_lt.mpr hfull
  rw [Meter.append, if_neg hplaces, if_pos hany, herase]
  rfl

end departed

/-- Settles O52: a record goes by whether its home still holds it. -/
theorem snapshotRecordsAreDeliveredOrReturned : Obligations.SnapshotRecordsAreDeliveredOrReturned := by
  refine ⟨fun s serial t h generation interval k => ?_, fun _ _ _ _ _ _ _ => ⟨rfl, rfl, rfl, rfl⟩,
    fun m d => ⟨Meter.append_room d, fun older newer x hdeparted hfull hx hold =>
      Meter.append_full d hdeparted hfull hx hold⟩⟩
  intro taken r
  refine ⟨fun hgen htiered x hx => ?_, fun hgone =>
    ⟨State.commitRecord_gone hgone, State.mergeRecord_gone hgone⟩⟩
  intro y reached
  refine ⟨?_, ?_⟩
  · have hquota : (s.withUsage t h y).quotaReached t h = reached := s.withUsage_quotaReached t h y
    rw [show s.commitRecord taken = _ from State.commitRecord_held hgen htiered hx]
    cases hreached : reached with
    | true =>
      rw [State.reviewQuota_of_reached _ t h (hquota.trans hreached), State.evaluateQuota_withUsage,
        if_pos rfl]
    | false =>
      rw [State.reviewQuota_of_not_reached _ t h (hquota.trans hreached), if_neg (by decide)]
      rw [State.withUsage, State.modRecord, State.modHome_modHome]
  · rw [show s.mergeRecord taken = _ from State.mergeRecord_held hgen htiered hx, Counters.merge_eq]

/-! ### CONFIRM and the expiries (R166, R167) -/

section ending
variable {s : State} {e : Readout}

theorem State.commit_eq (s : State) (e : Readout) : s.commit e =
    (match e.range with
      | .usage _ _ => e.snapshot.foldl State.commitRecord s
      | .departed => s.modMeter (·.removeMarked e.tag)).modMeter (·.free e.tag) := by
  unfold State.commit
  cases e.range <;> rfl

theorem State.mergeBack_eq (s : State) (e : Readout) : s.mergeBack e =
    (match e.range with
      | .usage _ _ => e.snapshot.foldl State.mergeRecord s
      | .departed => s.modMeter (·.unmark e.tag)).modMeter (·.free e.tag) := by
  unfold State.mergeBack
  cases e.range <;> rfl

theorem exec_confirm {sender : Nat} (tag : Nat) (hup : s.inReset = none)
    (hobeys : s.obeys sender = true) : exec (.confirm sender tag) s = .next
      ((s.meter.readouts.find? (Readout.confirmedBy sender tag)).elim
        ((s.take (.confirm sender tag)).post .meter sender (.stale (.confirm tag)))
        (fun e => ((s.take (.confirm sender tag)).commit e).post .meter sender
          (.accepted (.confirm tag) none))) := by
  have htable : (s.take (.confirm sender tag)).meter = s.meter := rfl
  cases hfound : s.meter.readouts.find? (Readout.confirmedBy sender tag) <;>
    simp only [exec, execConfirm, State.whileUp_up hup, hobeys, if_true, htable, hfound,
      Option.elim_none, Option.elim_some]

theorem exec_pickupWaitExpiry {tag : Nat} (hup : s.inReset = none)
    (hfound : s.meter.readouts.find? (Readout.expiredIn .ready tag) = some e) :
    exec (.pickupWaitExpiry tag) s = .next ((s.modMeter (fun m =>
      { m with missedPickups := bump m.missedPickups })).mergeBack e) := by
  simp only [exec, execPickupWaitExpiry, State.whileUp_up hup, hfound]

theorem exec_confirmWaitExpiry {tag : Nat} (hup : s.inReset = none)
    (hfound : s.meter.readouts.find? (Readout.expiredIn .delivered tag) = some e) :
    exec (.confirmWaitExpiry tag) s = .next (s.mergeBack e) := by
  simp only [exec, execConfirmWaitExpiry, State.whileUp_up hup, hfound]

end ending

/-- Settles O51: the entry is found by its tag, which no other holds. -/
theorem readoutsEndByConfirmOrExpiry : Obligations.ReadoutsEndByConfirmOrExpiry := by
  intro s older newer e hup htable hothers freed committed mergedBack
  have hfree : ∀ x : State, x.modMeter (·.free e.tag) = freed x := fun x => by
    simp only [Meter.free, freed, ne_eq, decide_not]
  have hcommit : ∀ x : State, x.commit e = committed x := fun x => by
    rw [State.commit_eq, hfree]
    cases hrange : e.range <;> simp [committed, hrange, Meter.removeMarked]
  have hmerge : ∀ x : State, x.mergeBack e = mergedBack x := fun x => by
    rw [State.mergeBack_eq, hfree]
    cases hrange : e.range <;> simp [mergedBack, hrange, Meter.unmark]
  have hold : ∀ x ∈ older, x.tag ≠ e.tag := fun x hx => hothers x (List.mem_append_left _ hx)
  refine ⟨fun sender hobeys => ⟨fun hdelivered hsender => ?_, fun hwrong => ?_, fun tag hnone => ?_⟩,
    fun hzero => ⟨fun hready => ?_, fun hdelivered => ?_⟩⟩
  · have hfound : s.meter.readouts.find? (Readout.confirmedBy sender e.tag) = some e := by
      rw [htable]
      exact find?_middle (by simp [Readout.confirmedBy, hdelivered, hsender])
        (fun x hx => by simp [Readout.confirmedBy, hold x hx])
    rw [exec_confirm e.tag hup hobeys, hfound, Option.elim_some, hcommit]
  · have hnone : s.meter.readouts.find? (Readout.confirmedBy sender e.tag) = none := by
      refine List.find?_eq_none.mpr fun x hx => ?_
      rw [htable, List.mem_append, List.mem_cons, or_left_comm, ← List.mem_append] at hx
      rcases hx with rfl | hx
      · rcases hwrong with h | h <;> simp [Readout.confirmedBy, h]
      · simp [Readout.confirmedBy, hothers x hx]
    rw [exec_confirm e.tag hup hobeys, hnone, Option.elim_none]
  · have hnone : s.meter.readouts.find? (Readout.confirmedBy sender tag) = none :=
      List.find?_eq_none.mpr fun x hx => by simp [Readout.confirmedBy, hnone x hx]
    rw [exec_confirm tag hup hobeys, hnone, Option.elim_none]
  · have hfound : s.meter.readouts.find? (Readout.expiredIn .ready e.tag) = some e := by
      rw [htable]
      exact find?_middle (by simp [Readout.expiredIn, hready, hzero])
        (fun x hx => by simp [Readout.expiredIn, hold x hx])
    rw [exec_pickupWaitExpiry hup hfound, hmerge]
    rfl
  · have hfound : s.meter.readouts.find? (Readout.expiredIn .delivered e.tag) = some e := by
      rw [htable]
      exact find?_middle (by simp [Readout.expiredIn, hdelivered, hzero])
        (fun x hx => by simp [Readout.expiredIn, hold x hx])
    rw [exec_confirmWaitExpiry hup hfound, hmerge]

end Sys2Proof.Machine
end

section
/-! SUPPORT. The Meter at a round receive end (sections 8.3 and 9.3): the statement O49. -/

namespace Sys2Proof.Machine

/-! ### Round counts (R149) -/

theorem Tree.impaired_eq (tr : Tree) (round : Nat) (h : HomeIdx) : tr.impaired round h =
    (tr.marks.find? (fun m => decide (m.round = round))).any
      (fun m => m.notClear || m.testDark.contains h) := by
  unfold Tree.impaired
  cases tr.marks.find? (fun m => decide (m.round = round)) <;> rfl

/-- A usage entry after the round counts of a home whose record is `r`. -/
def UsageEntry.countRound (x : UsageEntry) (r : HomeRecord) (impaired : Bool) : UsageEntry :=
  if r.state = .active then
    { x with counters := { x.counters with
        activeRounds := x.counters.activeRounds.plus 1
        throttledRounds := if r.throttled = some true
          then x.counters.throttledRounds.plus 1 else x.counters.throttledRounds
        impairedRounds := if impaired
          then x.counters.impairedRounds.plus 1 else x.counters.impairedRounds } }
  else x

theorem Home.countRound_eq (x : Home) (impaired : Bool) : x.countRound impaired =
    { x with usage := x.usage.map (fun y => y.countRound x.record impaired) } := by
  unfold Home.countRound UsageEntry.countRound
  split
  · rfl
  · simp

section counts
variable (s : State) (t : TreeId) (round : Nat)

theorem State.countRounds_tree : (s.countRounds t round).tree t =
    (s.tree t).mapHomes (fun h x => x.countRound ((s.tree t).impaired round h)) := by
  simp [State.countRounds]

theorem State.countRounds_tree_other (u : TreeId) (hu : u ≠ t) :
    (s.countRounds t round).tree u = s.tree u := by
  simp [State.countRounds, hu]

theorem State.countRounds_home (h : HomeIdx) : (s.countRounds t round).home t h =
    { s.home t h with usage := (s.home t h).usage.map (fun y =>
        y.countRound (s.record t h) ((s.tree t).impaired round h)) } := by
  rw [State.home, State.countRounds_tree, Tree.home_mapHomes, Home.countRound_eq]
  rfl

end counts

/-! ### The cut (R164, R165) -/

/-- The indices covered are those from the first on, in their order. -/
theorem coveredHomes_val (first : HomeIdx) {count : Nat} (hfits : first.val + count ≤ 128) :
    (coveredHomes first count).map Fin.val = List.range' first.val count := by
  have hrange : List.range' 0 128 = List.range' 0 first.val ++ (List.range' first.val count
      ++ List.range' (first.val + count) (128 - (first.val + count))) := by
    have h1 := List.range'_append (s := 0) (m := first.val) (n := 128 - first.val) (step := 1)
    have h2 := List.range'_append (s := first.val) (m := count) (n := 128 - (first.val + count))
      (step := 1)
    rw [Nat.one_mul, Nat.zero_add] at h1
    rw [Nat.one_mul] at h2
    rw [h2, show count + (128 - (first.val + count)) = 128 - first.val by omega, h1]
    congr 1
    omega
  have hfilter : (coveredHomes first count).map Fin.val = (List.range' 0 128).filter
      (fun n => decide (first.val ≤ n) && decide (n < first.val + count)) := by
    have hall : allHomes.map Fin.val = List.range' 0 128 := by decide
    rw [← hall, List.filter_map]
    rfl
  rw [hfilter, hrange, List.filter_append, List.filter_append]
  have hbefore : (List.range' 0 first.val).filter
      (fun n => decide (first.val ≤ n) && decide (n < first.val + count)) = [] :=
    List.filter_eq_nil_iff.mpr fun n hn => by
      simp only [List.mem_range'_1] at hn
      simp only [Bool.and_eq_true, decide_eq_true_eq]
      omega
  have hafter : (List.range' (first.val + count) (128 - (first.val + count))).filter
      (fun n => decide (first.val ≤ n) && decide (n < first.val + count)) = [] :=
    List.filter_eq_nil_iff.mpr fun n hn => by
      simp only [List.mem_range'_1] at hn
      simp only [Bool.and_eq_true, decide_eq_true_eq]
      omega
  have hwithin : (List.range' first.val count).filter
      (fun n => decide (first.val ≤ n) && decide (n < first.val + count))
        = List.range' first.val count :=
    List.filter_eq_self.mpr fun n hn => by
      simp only [List.mem_range'_1] at hn
      simp only [Bool.and_eq_true, decide_eq_true_eq]
      omega
  rw [hbefore, hafter, hwithin, List.nil_append, List.append_nil]

theorem mem_coveredHomes (first : HomeIdx) (count : Nat) (h : HomeIdx) :
    h ∈ coveredHomes first count ↔ first.val ≤ h.val ∧ h.val < first.val + count := by
  simp [coveredHomes, mem_allHomes]

theorem coveredHomes_getElem? (first h : HomeIdx) {count k : Nat} (hfits : first.val + count ≤ 128)
    (hk : k < count) (hh : h.val = first.val + k) : (coveredHomes first count)[k]? = some h := by
  have hval : ((coveredHomes first count).map Fin.val)[k]? = some h.val := by
    rw [coveredHomes_val first hfits, List.getElem?_range' hk, hh, Nat.one_mul]
  rw [List.getElem?_map, Option.map_eq_some_iff] at hval
  obtain ⟨g, hg, hgh⟩ := hval
  rw [hg, Fin.ext hgh]

section cut
variable (s : State) {e : Readout} {t : TreeId} {first : HomeIdx}

/-- The table after a cut: the entry cut has its snapshot and is READY. -/
def Readout.cutTo (e : Readout) (pickupWait : Nat) (snapshot : List SnapshotRecord) (x : Readout) :
    Readout :=
  if x.tag = e.tag then
    { x with state := .ready, timer := some (max pickupWait 1), snapshot := snapshot }
  else x

theorem State.cut_usage (hrange : e.range = .usage t first) : s.cut e =
    (s.modTree t (fun tr => tr.mapHomes (fun h x =>
        if (coveredHomes first e.count).contains h then { x with usage := x.usage.map (·.cut e.tag) }
        else x))).modMeter
      (fun m => { m with readouts := m.readouts.map (e.cutTo s.cfg.pickupWait
        ((coveredHomes first e.count).map (s.snapshotOf t))) }) := by
  simp only [State.cut, hrange]
  rfl

theorem State.cut_tree (hrange : e.range = .usage t first) : (s.cut e).tree t =
    (s.tree t).mapHomes (fun h x => if (coveredHomes first e.count).contains h
      then { x with usage := x.usage.map (·.cut e.tag) } else x) := by
  rw [s.cut_usage hrange, State.modMeter_tree, State.tree_modTree_self]

theorem State.cut_tree_other (hrange : e.range = .usage t first) (u : TreeId) (hu : u ≠ t) :
    (s.cut e).tree u = s.tree u := by
  rw [s.cut_usage hrange, State.modMeter_tree, State.tree_modTree_other _ _ _ _ hu]

theorem State.cut_home (hrange : e.range = .usage t first) (h : HomeIdx) : (s.cut e).home t h =
    if first.val ≤ h.val ∧ h.val < first.val + e.count
      then { s.home t h with usage := (s.home t h).usage.map (·.cut e.tag) } else s.home t h := by
  rw [State.home, s.cut_tree hrange, Tree.home_mapHomes]
  refine if_congr ?_ rfl rfl
  rw [List.contains_iff_mem, mem_coveredHomes]

theorem UsageEntry.cut_eq (x : UsageEntry) (tag : Nat) : x.cut tag =
    if x.inSnapshot = none then { x with counters := .zero, inSnapshot := some tag } else x := by
  unfold UsageEntry.cut
  cases hheld : x.inSnapshot <;> rfl

end cut

/-- Settles O49: the round counts go home by home, and a cut goes through the indices it covers. -/
theorem receiveEndCountsRoundsAndCuts : Obligations.ReceiveEndCountsRoundsAndCuts := by
  refine ⟨fun s t round => ?_, fun s e t first hrange hfits => ?_⟩
  · intro u impaired
    refine ⟨rfl, rfl, s.countRounds_tree_other t round, ?_, fun h => ?_⟩
    · rw [show u.tree t = _ from s.countRounds_tree t round]
      rfl
    · have himpaired : (s.tree t).impaired round h = impaired h := Tree.impaired_eq _ _ _
      rw [show u.home t h = _ from s.countRounds_home t round h, himpaired]
      rfl
  · intro u covered recordOf
    have hrecord : ∀ h, s.snapshotOf t h = recordOf h := fun h => by
      simp only [State.snapshotOf, recordOf]
      cases (s.home t h).usage with
      | none => rfl
      | some x => cases x.inSnapshot <;> rfl
    refine ⟨?_, s.cut_tree_other hrange, ?_, fun h hout => ?_, fun h hin => ?_,
      (coveredHomes first e.count).map (s.snapshotOf t), ?_, fun k h hk hh => ?_, ?_⟩
    · rw [show u = _ from s.cut_usage hrange]
      rfl
    · rw [show u.tree t = _ from s.cut_tree hrange]
      rfl
    · rw [show u.home t h = _ from s.cut_home hrange h, if_neg hout]
    · rw [show u.home t h = _ from s.cut_home hrange h, if_pos hin]
      simp only [UsageEntry.cut_eq]
      rfl
    · rw [List.length_map, ← List.length_map (f := Fin.val), coveredHomes_val first hfits,
        List.length_range']
    · rw [List.getElem?_map, coveredHomes_getElem? first h hfits hk hh, Option.map_some, hrecord]
    · rw [show u = _ from s.cut_usage hrange]
      rfl

end Sys2Proof.Machine
end

section
/-! SUPPORT. READ (sections 9.1 and 9.2): what a READ names, which entry it matches, and a new entry of the
readout table; the statement O50. -/

namespace Sys2Proof.Machine

/-! ### The range of a READ (R160) -/

theorem max_one_min (count limit : Nat) (hlimit : 1 ≤ limit) :
    max 1 (min count limit) = if count = 0 then 1 else min count limit := by
  split <;> omega

theorem State.readRange_eq (s : State) (kind tree first count : Nat) :
    s.readRange kind tree first count =
      if kind = 1 then some ⟨.departed, if count = 0 then 1 else min count 4⟩
      else if kind = 0 then
        if h : tree < 4 ∧ first < 128 then
          if s.enabled ⟨tree, h.1⟩ then
            some ⟨.usage ⟨tree, h.1⟩ ⟨first, h.2⟩, min (if count = 0 then 1 else min count 6) (128 - first)⟩
          else none
        else none
      else none := by
  unfold State.readRange
  split
  · rw [if_neg (by decide), if_pos rfl]
    by_cases htree : tree < 4
    · by_cases hfirst : first < 128
      · rw [dif_pos htree, dif_pos hfirst, dif_pos ⟨htree, hfirst⟩, max_one_min count 6 (by decide)]
      · rw [dif_pos htree, dif_neg hfirst, dif_neg fun h => hfirst h.2]
    · rw [dif_neg htree, dif_neg fun h => htree h.1]
  · rw [if_pos rfl, max_one_min count 4 (by decide)]
  · next hzero hone => rw [if_neg hone, if_neg hzero]

/-! ### The entry that a READ matches (R161) -/

section matching
variable {s : State} {sender : Nat} {r : ReadRange} {older newer : List Readout} {e : Readout}

theorem Readout.equals_iff : e.equals sender r = true ↔
    e.requester = sender ∧ e.range = r.range ∧ e.count = r.count := by
  simp [Readout.equals, and_assoc]

theorem Readout.exceeds_iff : e.exceeds sender r = true ↔
    e.requester = sender ∧ e.range = r.range ∧ r.count < e.count := by
  simp [Readout.exceeds, and_assoc]

theorem State.matchRead_equal (htable : s.meter.readouts = older ++ e :: newer)
    (he : e.equals sender r = true) (hold : ∀ x ∈ older, x.equals sender r = false) :
    s.matchRead sender r = some e := by
  rw [State.matchRead, htable, find?_middle he hold, Option.some_or]

theorem find?_equals_none (hnone : ∀ x ∈ s.meter.readouts, ¬ x.equals sender r = true) :
    s.meter.readouts.find? (Readout.equals sender r) = none :=
  List.find?_eq_none.mpr hnone

theorem State.matchRead_larger (htable : s.meter.readouts = older ++ e :: newer)
    (halias : s.cfg.aliasOn = true) (hnone : ∀ x ∈ s.meter.readouts, ¬ x.equals sender r = true)
    (he : e.exceeds sender r = true) (hold : ∀ x ∈ older, x.exceeds sender r = false) :
    s.matchRead sender r = some e := by
  rw [State.matchRead, find?_equals_none hnone, Option.none_or, if_pos halias, htable,
    find?_middle he hold]

theorem State.matchRead_none (hnone : ∀ x ∈ s.meter.readouts, ¬ x.equals sender r = true)
    (hlarger : s.cfg.aliasOn = true → ∀ x ∈ s.meter.readouts, ¬ x.exceeds sender r = true) :
    s.matchRead sender r = none := by
  rw [State.matchRead, find?_equals_none hnone, Option.none_or]
  split
  · next halias => exact List.find?_eq_none.mpr (hlarger halias)
  · rfl

end matching

/-! ### The marks of a new DEPARTED entry (R163) -/

/-- Marking changes marks alone. -/
theorem markOldest_map (tag n : Nat) (l : List DepartedRecord) :
    (markOldest tag n l).map (fun d => { d with mark := none }) =
      l.map (fun d => { d with mark := none }) := by
  induction l generalizing n with
  | nil => cases n <;> rfl
  | cons d l ih =>
    cases n with
    | zero => rfl
    | succ n =>
      unfold markOldest
      cases d.mark <;> simp [ih]

/-- A record is marked when it is unmarked and fewer than `n` unmarked ones are older. -/
theorem markOldest_middle (tag n : Nat) (before after : List DepartedRecord) (d : DepartedRecord) :
    (markOldest tag n (before ++ d :: after))[before.length]? = some
      (if d.mark = none ∧ (before.filter (fun x => decide (x.mark = none))).length < n
        then { d with mark := some tag } else d) := by
  induction before generalizing n with
  | nil =>
    cases n with
    | zero => simp [markOldest]
    | succ n =>
      rw [List.nil_append, markOldest]
      cases hmark : d.mark <;> simp
  | cons x before ih =>
    cases n with
    | zero => simp [markOldest]
    | succ n =>
      rw [List.cons_append, markOldest]
      cases hmark : x.mark with
      | none => simp [ih, hmark]
      | some k => simp [ih, hmark]

/-! ### The next tag (R159) -/

/-- The tag `k` steps after `tag`, from 255 on to 1. -/
def laterTag (tag k : Nat) : Nat := (tag - 1 + k) % 255 + 1

theorem laterTag_zero {tag : Nat} (hlow : 1 ≤ tag) (hhigh : tag ≤ 255) : laterTag tag 0 = tag := by
  unfold laterTag
  omega

theorem tagAfter_laterTag (tag k : Nat) : tagAfter (laterTag tag k) = laterTag tag (k + 1) := by
  unfold tagAfter laterTag Config.tagMax
  split <;> omega

/-- The tags passed are in use, and one before the fuel's end is free. -/
theorem freeTag_spec (used : List Nat) (tag fuel i : Nat) :
    ∃ k, freeTag used fuel (laterTag tag i) = laterTag tag (i + k) ∧ k ≤ fuel
      ∧ (∀ j, j < k → laterTag tag (i + j) ∈ used) ∧ (k < fuel → laterTag tag (i + k) ∉ used) := by
  induction fuel generalizing i with
  | zero => exact ⟨0, rfl, Nat.le_refl 0, fun _ hj => absurd hj (Nat.not_lt_zero _), fun h => absurd h (Nat.lt_irrefl 0)⟩
  | succ fuel ih =>
    rw [freeTag]
    by_cases hused : laterTag tag i ∈ used
    · obtain ⟨k, hfree, hle, hpassed, hend⟩ := ih (i + 1)
      rw [if_pos (List.contains_iff_mem.mpr hused), tagAfter_laterTag, hfree]
      refine ⟨k + 1, by rw [Nat.add_right_comm, Nat.add_assoc], Nat.succ_le_succ hle, fun j hj => ?_,
        fun hk => ?_⟩
      · cases j with
        | zero => exact hused
        | succ j =>
          have hj' := hpassed j (Nat.lt_of_succ_lt_succ hj)
          rwa [Nat.add_right_comm, Nat.add_assoc] at hj'
      · have hend' := hend (Nat.lt_of_succ_lt_succ hk)
        rwa [Nat.add_right_comm, Nat.add_assoc] at hend'
    · rw [if_neg (fun h => hused (List.contains_iff_mem.mp h))]
      exact ⟨0, rfl, Nat.zero_le _, fun _ hj => absurd hj (Nat.not_lt_zero _), fun _ => hused⟩

/-- Fewer tags than places are held, so the next one is found among the `tags.length + 1` after `tag`. -/
theorem freeTag_found {tags : List Nat} {tag : Nat} (hlow : 1 ≤ tag) (hhigh : tag ≤ 255)
    (hfew : tags.length < 4) : ∃ k, 1 ≤ k ∧ k ≤ tags.length + 1
      ∧ freeTag (tags ++ [tag]) (tags.length + 1) (tagAfter tag) = laterTag tag k
      ∧ laterTag tag k ∉ tags ++ [tag] ∧ ∀ j, 1 ≤ j → j < k → laterTag tag j ∈ tags ++ [tag] := by
  obtain ⟨k, hfree, hle, hpassed, hend⟩ := freeTag_spec (tags ++ [tag]) tag (tags.length + 1) 1
  have hfirst : tagAfter tag = laterTag tag 1 := by
    conv_lhs => rw [← laterTag_zero hlow hhigh]
    exact tagAfter_laterTag tag 0
  have hshort : k < tags.length + 1 := by
    by_contra hnot
    have hall : ((List.range (tags.length + 1)).map (fun j => laterTag tag (1 + j))) ⊆ tags := by
      intro n hn
      obtain ⟨j, hj, rfl⟩ := List.mem_map.mp hn
      rw [List.mem_range] at hj
      rcases List.mem_append.mp (hpassed j (by omega)) with hheld | hown
      · exact hheld
      · have hown' := List.mem_singleton.mp hown
        unfold laterTag at hown'
        omega
    have hdistinct : ((List.range (tags.length + 1)).map (fun j => laterTag tag (1 + j))).Nodup := by
      refine List.Nodup.map_on (fun i hi j hj hij => ?_) List.nodup_range
      rw [List.mem_range] at hi hj
      unfold laterTag at hij
      omega
    have hlength := (hdistinct.subperm hall).length_le
    rw [List.length_map, List.length_range] at hlength
    omega
  refine ⟨1 + k, by omega, by omega, hfirst ▸ hfree, hend hshort, fun j hj hjk => ?_⟩
  have hj' := hpassed (j - 1) (by omega)
  rwa [Nat.add_sub_cancel' hj] at hj'

/-! ### READ (R162) -/

section read
variable {s : State} {sender : Nat}

theorem exec_read (kind tree first count : Nat) (hup : s.inReset = none)
    (hobeys : s.obeys sender = true) :
    (s.readRange kind tree first count = none → exec (.read sender kind tree first count) s = .next
      ((s.take (.read sender kind tree first count)).post .meter sender
        (.declined (.read kind tree first count) .badRange none)))
    ∧ ∀ r, s.readRange kind tree first count = some r →
      exec (.read sender kind tree first count) s = .next
        ((s.take (.read sender kind tree first count)).answerRead sender r) := by
  have hsame : (s.take (.read sender kind tree first count)).readRange kind tree first count
      = s.readRange kind tree first count := rfl
  constructor
  · intro hnone
    simp only [exec, execRead, State.whileUp_up hup, hobeys, if_true, hsame, hnone]
  · intro r hsome
    simp only [exec, execRead, State.whileUp_up hup, hobeys, if_true, hsame, hsome]

variable {r : ReadRange} {e : Readout}

theorem State.answerRead_preparing (hmatch : s.matchRead sender r = some e)
    (hstate : e.state = .preparing) :
    s.answerRead sender r = s.post .meter sender (.pending r.reference e.tag) := by
  simp only [State.answerRead, hmatch, hstate]

theorem State.answerRead_cut (hmatch : s.matchRead sender r = some e)
    (hstate : e.state ≠ .preparing) :
    s.answerRead sender r = (s.deliver e).post .meter sender (s.meter.dataAnswer r e) := by
  simp only [State.answerRead, hmatch]
  cases hcut : e.state with
  | preparing => exact absurd hcut hstate
  | ready => rfl
  | delivered => rfl

theorem State.answerRead_new (hmatch : s.matchRead sender r = none)
    (hroom : s.meter.readouts.length < 4) : s.answerRead sender r =
      (s.newReadout sender r).post .meter sender (.pending r.reference s.meter.nextTag) := by
  simp only [State.answerRead, hmatch]
  exact if_pos hroom

theorem State.answerRead_busy (hmatch : s.matchRead sender r = none)
    (hfull : 4 ≤ s.meter.readouts.length) :
    s.answerRead sender r = s.post .meter sender (.busy r.reference) := by
  simp only [State.answerRead, hmatch]
  exact if_neg (Nat.not_lt.mpr hfull)

theorem State.newReadout_usage {t : TreeId} {h : HomeIdx} (hrange : r.range = .usage t h) :
    (s.newReadout sender r).meter.departed = s.meter.departed
    ∧ (s.newReadout sender r).meter.readouts = s.meter.readouts ++
      [{ requester := sender, range := r.range, count := r.count, tag := s.meter.nextTag
         state := .preparing, timer := none, snapshot := [] }] := by
  simp only [State.newReadout, State.modMeter_meter, hrange]
  exact ⟨trivial, trivial⟩

theorem State.newReadout_departed (hrange : r.range = .departed) :
    (s.newReadout sender r).meter.departed = markOldest s.meter.nextTag r.count s.meter.departed
    ∧ (s.newReadout sender r).meter.readouts = s.meter.readouts ++
      [{ requester := sender, range := r.range, count := r.count, tag := s.meter.nextTag
         state := .ready, timer := some (max s.cfg.pickupWait 1), snapshot := [] }] := by
  simp only [State.newReadout, State.modMeter_meter, hrange]
  exact ⟨trivial, rfl⟩

theorem State.newReadout_tags : (s.newReadout sender r).meter.readouts.map Readout.tag =
    s.meter.readouts.map Readout.tag ++ [s.meter.nextTag] := by
  rw [State.newReadout, State.modMeter_meter, List.map_append]
  rfl

theorem State.newReadout_nextTag : (s.newReadout sender r).meter.nextTag =
    freeTag (s.meter.readouts.map Readout.tag ++ [s.meter.nextTag])
      ((s.meter.readouts.map Readout.tag).length + 1) (tagAfter s.meter.nextTag) := by
  rw [State.newReadout, State.modMeter_meter, List.map_append, List.length_map]
  rfl

end read

/-- Settles O50: the answer goes by the entry that the READ matches, or by the room for a new one. -/
theorem readIsAnsweredFromTheTable : Obligations.ReadIsAnsweredFromTheTable := by
  intro s sender kind tree first count hup hobeys c s1 wanted
  have hwanted : s.readRange kind tree first count = wanted := s.readRange_eq kind tree first count
  obtain ⟨hdeclined, hanswered⟩ := exec_read kind tree first count hup hobeys
  refine ⟨fun hnone => hdeclined (hwanted.trans hnone), fun r hr => ?_⟩
  intro same larger answered
  have hexec : exec c s = .next (s1.answerRead sender r) := hanswered r (hwanted.trans hr)
  have hsame : ∀ x, x.equals sender r = true ↔ same x := fun x => Readout.equals_iff
  have hlarger : ∀ x, x.exceeds sender r = true ↔ larger x := fun x => Readout.exceeds_iff
  have hmatched : ∀ e, s1.matchRead sender r = some e → answered e := fun e hmatch =>
    ⟨fun hpreparing => by rw [hexec, State.answerRead_preparing hmatch hpreparing],
      fun hcut => by rw [hexec, State.answerRead_cut hmatch hcut]; rfl⟩
  refine ⟨fun older newer e htable => ⟨fun he hold => hmatched e ?_,
    fun he halias hnone hold => hmatched e ?_⟩, fun hnone hnotLarger => ?_⟩
  · exact State.matchRead_equal htable ((hsame e).mpr he)
      (fun x hx => Bool.eq_false_iff.mpr (fun h => hold x hx ((hsame x).mp h)))
  · exact State.matchRead_larger htable halias (fun x hx h => hnone x hx ((hsame x).mp h))
      ((hlarger e).mpr he) (fun x hx => Bool.eq_false_iff.mpr (fun h => hold x hx ((hlarger x).mp h)))
  · have hunmatched : s1.matchRead sender r = none :=
      State.matchRead_none (fun x hx h => hnone x hx ((hsame x).mp h))
        (fun halias x hx h => hnotLarger halias x hx ((hlarger x).mp h))
    refine ⟨fun hfull => by rw [hexec, State.answerRead_busy hunmatched hfull], fun hroom =>
      ⟨s1.newReadout sender r, by rw [hexec, State.answerRead_new hunmatched hroom]; rfl, rfl,
        fun t h hrange => State.newReadout_usage hrange, fun hrange => ?_, fun hlow hhigh => ?_, rfl, rfl⟩⟩
    · obtain ⟨hdeparted, hreadouts⟩ := s1.newReadout_departed (sender := sender) hrange
      rw [hdeparted]
      exact ⟨hreadouts, markOldest_map _ _ _, fun before after d hlist => by
        rw [show s1.meter.departed = _ from hlist]; exact markOldest_middle _ _ _ _ _⟩
    · intro later
      have hfew : (s.meter.readouts.map Readout.tag).length < 4 := by rwa [List.length_map]
      obtain ⟨k, hpos, hle, hfree, hunused, hpassed⟩ := freeTag_found hlow hhigh hfew
      have hnext : (s1.newReadout sender r).meter.nextTag = laterTag s.meter.nextTag k :=
        State.newReadout_nextTag.trans hfree
      have htags : (s1.newReadout sender r).meter.readouts.map Readout.tag =
        s.meter.readouts.map Readout.tag ++ [s.meter.nextTag] := State.newReadout_tags
      refine ⟨k, hpos, by omega, hnext, fun e he htag => hunused ?_, fun j hj hjk => ?_⟩
      · rw [← htags, ← hnext, ← htag]
        exact List.mem_map_of_mem he
      · have hheld := hpassed j hj hjk
        rw [← htags] at hheld
        exact List.mem_map.mp hheld

end Sys2Proof.Machine
end

section
/-! SUPPORT. The Tree Receiver's light (chapter 1): which header a grant takes, its outcome, and where a
discovery reply is read; then the downstream frames. The statements O41, O44 and O45. -/

namespace Sys2Proof.Machine

/-! ### The header that a grant takes (R14) -/

/-- The grant nearest to a position stands before every grant that is only as near. -/
theorem nearestGrant_eq_some (pos : Int) (g : Grant) (l : List Grant) :
    nearestGrant pos l = some g ↔ ∃ before after : List Grant, l = before ++ g :: after
      ∧ (∀ k ∈ before, g.distance pos < k.distance pos)
      ∧ ∀ k ∈ after, g.distance pos ≤ k.distance pos := by
  induction l generalizing g with
  | nil => simp [nearestGrant]
  | cons x rest ih =>
    rw [nearestGrant]
    constructor
    · intro hnearest
      cases hrest : nearestGrant pos rest with
      | none =>
        rw [hrest] at hnearest
        obtain rfl := Option.some.inj hnearest
        have hempty : rest = [] := by
          cases rest with
          | nil => rfl
          | cons y l =>
            rw [nearestGrant] at hrest
            split at hrest
            · cases hrest
            · split at hrest <;> cases hrest
        exact ⟨[], [], by rw [hempty, List.nil_append], by simp, by simp⟩
      | some g' =>
        rw [hrest] at hnearest
        obtain ⟨before, after, hsplit, hbefore, hafter⟩ := (ih g').mp hrest
        dsimp only at hnearest
        split at hnearest
        · next hle =>
          obtain rfl := Option.some.inj hnearest
          refine ⟨[], rest, rfl, by simp, fun k hk => hle.trans ?_⟩
          rw [hsplit] at hk
          rcases List.mem_append.mp hk with hk | hk
          · exact (hbefore k hk).le
          · rcases List.mem_cons.mp hk with rfl | hk
            · exact le_refl _
            · exact hafter k hk
        · next hlt =>
          obtain rfl := Option.some.inj hnearest
          refine ⟨x :: before, after, by rw [hsplit, List.cons_append], fun k hk => ?_, hafter⟩
          rcases List.mem_cons.mp hk with rfl | hk
          · exact Nat.not_le.mp hlt
          · exact hbefore k hk
    · rintro ⟨before, after, hsplit, hbefore, hafter⟩
      cases before with
      | nil =>
        obtain ⟨rfl, rfl⟩ := List.cons.inj hsplit
        cases hrest : nearestGrant pos rest with
        | none => rfl
        | some g' =>
          obtain ⟨before, after, hrestSplit, -, -⟩ := (ih g').mp hrest
          exact if_pos (hafter g' (by simp [hrestSplit]))
      | cons y before =>
        obtain ⟨rfl, rfl⟩ := List.cons.inj hsplit
        have hrest := (ih g).mpr
          ⟨before, after, rfl, fun k hk => hbefore k (List.mem_cons_of_mem _ hk), hafter⟩
        rw [hrest]
        exact if_neg (Nat.not_le.mpr (hbefore x List.mem_cons_self))

/-- No header further on is nearer to the grant, or as near and earlier (R14). -/
def Grant.prefers (g : Grant) (x y : FoundHeader × BurstHeader) : Prop :=
  g.distance x.1.pos < g.distance y.1.pos
    ∨ (g.distance x.1.pos = g.distance y.1.pos ∧ x.1.pos ≤ y.1.pos)

theorem Grant.prefers_trans {g : Grant} {x y z : FoundHeader × BurstHeader} (hxy : g.prefers x y)
    (hyz : g.prefers y z) : g.prefers x z := by
  unfold Grant.prefers at *
  omega

theorem Grant.prefers_of_not {g : Grant} {x y : FoundHeader × BurstHeader} (hnot : ¬ g.prefers x y) :
    g.prefers y x := by
  unfold Grant.prefers at *
  omega

theorem nearestHeader_eq_none {g : Grant} {l : List (FoundHeader × BurstHeader)}
    (hnone : nearestHeader g l = none) : l = [] := by
  cases l with
  | nil => rfl
  | cons x l =>
    rw [nearestHeader] at hnone
    split at hnone
    · cases hnone
    · split at hnone <;> cases hnone

theorem nearestHeader_spec {g : Grant} {l : List (FoundHeader × BurstHeader)}
    {x : FoundHeader × BurstHeader} (hsome : nearestHeader g l = some x) :
    x ∈ l ∧ ∀ y ∈ l, g.prefers x y := by
  induction l generalizing x with
  | nil => cases hsome
  | cons y l ih =>
    have hrefl : ∀ z, g.prefers z z := fun z => .inr ⟨rfl, le_refl _⟩
    rw [nearestHeader] at hsome
    cases hrest : nearestHeader g l with
    | none =>
      rw [hrest] at hsome
      obtain rfl := Option.some.inj hsome
      rw [nearestHeader_eq_none hrest]
      simp [hrefl]
    | some z =>
      rw [hrest] at hsome
      obtain ⟨hz, hbest⟩ := ih hrest
      dsimp only at hsome
      split at hsome
      · next hyz =>
        obtain rfl := Option.some.inj hsome
        refine ⟨List.mem_cons_self, fun k hk => ?_⟩
        rcases List.mem_cons.mp hk with rfl | hk
        · exact hrefl _
        · exact Grant.prefers_trans hyz (hbest k hk)
      · next hnot =>
        obtain rfl := Option.some.inj hsome
        refine ⟨List.mem_cons_of_mem _ hz, fun k hk => ?_⟩
        rcases List.mem_cons.mp hk with rfl | hk
        · exact Grant.prefers_of_not hnot
        · exact hbest k hk

/-- A header is good for a grant by its check, the bytes it claims, and the grant it is nearest to. -/
theorem Plan.goodFor_eq_some (p : Plan) (g : Grant) (f f' : FoundHeader) (b : BurstHeader) :
    p.goodFor g f' = some (f, b) ↔ f' = f ∧ readBurstHeader f.bytes = some b
      ∧ nearestGrant f.pos p.grants = some g ∧ g.distance f.pos ≤ 64 ∧ b.bytesUsed ≤ 32 * g.payload := by
  unfold Plan.goodFor
  cases hread : readBurstHeader f'.bytes with
  | none =>
    refine ⟨fun h => (by cases h), ?_⟩
    rintro ⟨rfl, hread', -⟩
    exact absurd (hread.symm.trans hread') (by simp)
  | some b' =>
    dsimp only
    split
    · next hgood =>
      constructor
      · intro h
        obtain ⟨rfl, rfl⟩ := Prod.mk.inj (Option.some.inj h)
        exact ⟨rfl, hread, hgood⟩
      · rintro ⟨rfl, hread', -⟩
        rw [Option.some.inj (hread.symm.trans hread')]
    · next hbad =>
      refine ⟨fun h => (by cases h), ?_⟩
      rintro ⟨rfl, hread', hgood⟩
      rw [Option.some.inj (hread'.symm.trans hread)] at hgood
      exact absurd hgood hbad

theorem mem_filterMap_goodFor (p : Plan) (g : Grant) (found : List FoundHeader) (f : FoundHeader)
    (b : BurstHeader) : (f, b) ∈ found.filterMap (p.goodFor g) ↔ f ∈ found
      ∧ readBurstHeader f.bytes = some b ∧ nearestGrant f.pos p.grants = some g
      ∧ g.distance f.pos ≤ 64 ∧ b.bytesUsed ≤ 32 * g.payload := by
  simp only [List.mem_filterMap, Plan.goodFor_eq_some]
  constructor
  · rintro ⟨f', hf', rfl, hgood⟩
    exact ⟨hf', hgood⟩
  · rintro ⟨hf, hgood⟩
    exact ⟨f, hf, rfl, hgood⟩

/-! ### The outcome of a grant (R15 to R17) -/

section outcome
variable {litLevel : Int} {p : Plan} {g : Grant} {found : List FoundHeader} {light : BurstLight}

theorem settleGrant_none (hnone : p.headerTaken g found = none) :
    settleGrant litLevel p g found light = if litLevel ≤ light.headerBlockLevel
      then (.garbled (clampLevel light.headerBlockLevel), none) else (.silent, none) := by
  simp only [settleGrant, hnone]

theorem settleGrant_wrongHome {f : FoundHeader} {b : BurstHeader}
    (hsome : p.headerTaken g found = some (f, b)) (hother : b.index ≠ g.home.val) :
    settleGrant litLevel p g found light = (.wrongHome b.index (clampLevel f.level), none) := by
  simp only [settleGrant, hsome]
  exact if_neg hother

theorem settleGrant_good {f : FoundHeader} {b : BurstHeader}
    (hsome : p.headerTaken g found = some (f, b)) (hown : b.index = g.home.val) :
    settleGrant litLevel p g found light =
      (.good (timingOf (f.pos - g.headerStep)) (p.testsOverrun g && decide (litLevel ≤ light.afterLevel))
          (f.pos - g.headerStep) (clampLevel f.level) b.backlog b.bytesUsed,
        if p.testsOverrun g then some (burstEnd g f.pos) else none) := by
  simp only [settleGrant, hsome]
  exact if_pos hown

end outcome

theorem timingOf_eq (offset : Int) : timingOf offset =
    if -4 ≤ offset ∧ offset ≤ 4 then Timing.arrived
    else if -16 ≤ offset ∧ offset ≤ 16 then .drifted else .misplaced := by
  unfold timingOf
  exact if_congr (by omega) rfl (if_congr (by omega) rfl rfl)

/-- Settles O41: the outcome by the header taken, and the header taken as the one that the grant
prefers among those good for it. -/
theorem grantOutcomeFollowsItsHeader : Obligations.GrantOutcomeFollowsItsHeader := by
  refine ⟨fun litLevel p g found light => ?_, fun p g found => ?_⟩
  · intro clamped out
    have hclamped : ∀ x, clampLevel x = clamped x := clampLevel_eq_ite
    refine ⟨fun hnone => ⟨fun hlit => ?_, fun hdark => ?_⟩, fun f b hsome => ⟨fun hother => ?_,
      fun hown => ?_⟩⟩
    · rw [← hclamped]
      exact (settleGrant_none hnone).trans (if_pos hlit)
    · exact (settleGrant_none hnone).trans (if_neg (not_le.mpr hdark))
    · rw [← hclamped]
      exact settleGrant_wrongHome hsome hother
    · intro offset timing
      have hout : out = _ := settleGrant_good hsome hown
      have htiming : timingOf (f.pos - g.headerStep) = timing := timingOf_eq _
      have htests : p.testsOverrun g = !(p.call && decide (1960 ≤ g.start + 2 + g.payload)) := rfl
      rw [hout, htiming, htests, hclamped]
      refine ⟨fun ⟨hcall, hlate⟩ => ?_, fun htested => ?_⟩
      · rw [hcall, decide_eq_true hlate]
        rfl
      · have hnot : (p.call && decide (1960 ≤ g.start + 2 + g.payload)) = false := by
          rcases htested with hcall | hearly
          · rw [hcall, Bool.false_and]
          · rw [decide_eq_false (Nat.not_le.mpr hearly), Bool.and_false]
        rw [hnot]
        rfl
  · intro away good
    have hgood : ∀ f b, (f, b) ∈ found.filterMap (p.goodFor g) ↔ f ∈ found ∧ good f b := fun f b => by
      rw [mem_filterMap_goodFor, nearestGrant_eq_some]
      exact and_congr_right fun _ => ⟨fun ⟨hread, hnear, hway, hbytes⟩ => ⟨hread, hbytes, hway, hnear⟩,
        fun ⟨hread, hbytes, hway, hnear⟩ => ⟨hread, hnear, hway, hbytes⟩⟩
    have htaken : ∀ f b, p.headerTaken g found = some (f, b) → (f ∈ found ∧ good f b)
        ∧ ∀ f' ∈ found, ∀ b', good f' b' → g.prefers (f, b) (f', b') := fun f b hsome => by
      obtain ⟨hmem, hbest⟩ := nearestHeader_spec hsome
      exact ⟨(hgood f b).mp hmem, fun f' hf' b' hb' => hbest _ ((hgood f' b').mpr ⟨hf', hb'⟩)⟩
    refine ⟨fun f b hsome => ⟨(htaken f b hsome).1.1, (htaken f b hsome).1.2, (htaken f b hsome).2⟩,
      fun hnone f hf b hb => ?_, fun f hf b hb hfirst => ?_⟩
    · have hempty := nearestHeader_eq_none hnone
      exact absurd ((hgood f b).mpr ⟨hf, hb⟩) (by rw [hempty]; exact List.not_mem_nil)
    · cases hsome : p.headerTaken g found with
      | none =>
        have hempty := nearestHeader_eq_none hsome
        exact absurd ((hgood f b).mpr ⟨hf, hb⟩) (by rw [hempty]; exact List.not_mem_nil)
      | some x =>
        obtain ⟨f', b'⟩ := x
        obtain ⟨⟨hf', hb'⟩, hbest⟩ := htaken f' b' hsome
        by_cases hsame : f' = f
        · subst hsame
          rw [Option.some.inj (hb'.1.symm.trans hb.1)]
        · have hless := hfirst f' hf' hsame b' hb'
          have hmore : g.prefers (f', b') (f, b) := hbest f hf b hb
          exact absurd hmore (by
            change ¬ (away g f'.pos < away g f.pos ∨ (away g f'.pos = away g f.pos ∧ f'.pos ≤ f.pos))
            omega)

/-! ### Reading on in the discovery window (R21) -/

section steps
variable {p : Int → Bool}

theorem stepsBefore_append {a : List Int} (b : List Int) (hnone : ∀ x ∈ a, p x = false) :
    stepsBefore p (a ++ b) = a.length + stepsBefore p b := by
  induction a with
  | nil => simp
  | cons x a ih =>
    rw [List.cons_append, stepsBefore, hnone x List.mem_cons_self, if_neg (by decide),
      ih fun y hy => hnone y (List.mem_cons_of_mem _ hy), List.length_cons]
    omega

theorem stepsBefore_eq_zero {l : List Int} (hfirst : ∀ x, l.head? = some x → p x = true) :
    stepsBefore p l = 0 := by
  cases l with
  | nil => rfl
  | cons x l => exact if_pos (hfirst x rfl)

end steps

section reading
variable {litLevel : Int} {past dark lit rest : List Int}

/-- The light left from a garbled reply is passed over to the first dark step. -/
theorem skipped_eq {blind : Bool} (hpast : blind = false → past = [])
    (hlit : ∀ x ∈ past, litLevel ≤ x) {l : List Int} (hdark : ∀ x, l.head? = some x → x < litLevel) :
    (if blind then stepsBefore (fun level => !decide (litLevel ≤ level)) (past ++ l) else 0)
      = past.length := by
  cases blind with
  | false => simp [hpast rfl]
  | true =>
    rw [if_pos rfl, stepsBefore_append l fun x hx => by simp [hlit x hx],
      stepsBefore_eq_zero fun x hx => by simp [hdark x hx], Nat.add_zero]

end reading

theorem head?_of_ne_nil {α : Type} {a b : List α} {x : α} (ha : a ≠ [])
    (hhead : (a ++ b).head? = some x) : x ∈ a := by
  cases a with
  | nil => exact absurd rfl ha
  | cons y a =>
    obtain rfl := Option.some.inj hhead
    exact List.mem_cons_self

/-- Settles O44: the levels part into the light passed over, the dark, the light of the reply and what
follows. -/
theorem replyIsReadAtTheFirstLight : Obligations.ReplyIsReadAtTheFirstLight := by
  intro litLevel t w light past dark lit rest hlevels hpast hpastLit hdark hlit hseparate start read
    garbled clamped
  have hdarkSteps : ∀ l, stepsBefore (fun level => decide (litLevel ≤ level)) (dark ++ l)
      = dark.length + stepsBefore (fun level => decide (litLevel ≤ level)) l := fun l =>
    stepsBefore_append l fun x hx => decide_eq_false (not_le.mpr (hdark x hx))
  refine ⟨fun hnoLit hnoRest => ?_, fun hsome hrest => ?_⟩
  · have hall : light.levels = past ++ dark := by rw [hlevels, hnoLit, hnoRest]; simp
    have hskip := skipped_eq hpast hpastLit (l := dark)
      fun x hx => hdark x (List.mem_of_head? hx)
    have hsteps := hdarkSteps []
    rw [List.append_nil, stepsBefore, Nat.add_zero] at hsteps
    simp only [read, readOn, hall, hskip, List.drop_left, hsteps, List.drop_length]
    rfl
  · have hall : light.levels = past ++ (dark ++ (lit ++ rest)) := by rw [hlevels]; simp
    have hskip : (if w.replyBlind then stepsBefore (fun level => !decide (litLevel ≤ level))
        (past ++ (dark ++ (lit ++ rest))) else 0) = past.length := by
      cases hblind : w.replyBlind with
      | false => simp [hpast hblind]
      | true =>
        have := skipped_eq (blind := true) (fun h => by cases h) hpastLit (l := dark ++ (lit ++ rest))
          fun x hx => hdark x (head?_of_ne_nil (hseparate hblind hsome) hx)
        exact this
    have hsteps : stepsBefore (fun level => decide (litLevel ≤ level)) (dark ++ (lit ++ rest))
        = dark.length := by
      rw [hdarkSteps, stepsBefore_eq_zero fun x hx =>
        decide_eq_true (hlit x (head?_of_ne_nil hsome hx)), Nat.add_zero]
    have hlight : stepsBefore (fun level => !decide (litLevel ≤ level)) (lit ++ rest) = lit.length := by
      rw [stepsBefore_append rest fun x hx => by simp [hlit x hx],
        stepsBefore_eq_zero fun x hx => by simp [hrest x hx], Nat.add_zero]
    have hblinded : (lit ++ rest).all (fun level => decide (litLevel ≤ level)) = decide (rest = []) := by
      rw [List.all_append, List.all_eq_true.mpr fun x hx => decide_eq_true (hlit x hx), Bool.true_and]
      cases rest with
      | nil => rfl
      | cons y rest => simp [not_le.mpr (hrest y rfl)]
    have hread : read = if 16000 ≤ start then ({ w with replyStep := start, replyBlind := false }, none)
        else if start + 32 ≤ 16000 then
          (match readReply light.bytes with
            | some (serial, delay) => ({ w with replyStep := start + 32, replyBlind := false },
                some (.valid w.plan.round t serial delay start (clampLevel light.replyLevel)))
            | none => garbled)
        else garbled := by
      have hnonempty : ∃ y l, lit ++ rest = y :: l := by
        obtain ⟨y, l, hy⟩ := List.exists_cons_of_ne_nil hsome
        exact ⟨y, l ++ rest, by rw [hy, List.cons_append]⟩
      obtain ⟨y, l, hcons⟩ := hnonempty
      simp only [read, readOn, hall, hskip, List.drop_left, hsteps, hlight, hblinded]
      rw [hcons]
      cases readReply light.bytes <;> rfl
    rw [hread]
    refine ⟨fun hlate => if_pos hlate, fun hin hcut => ?_, fun hin hbad => ?_,
      fun serial delay hin hgood => ?_⟩
    · rw [if_neg (by omega), if_neg (by omega)]
    · rw [if_neg (by omega), if_pos hin, hbad]
    · rw [if_neg (by omega), if_pos hin, hgood]
      dsimp only
      rw [clampLevel_eq_ite]

/-! ### Downstream frames (R23) -/

theorem State.delivers_iff (s : State) (t : TreeId) (h : HomeIdx) (frame : List Byte) :
    s.delivers t h frame = true ↔ s.enabled t = true
      ∧ ((s.record t h).state = .active ∨ (s.record t h).state = .quenched) ∧ frame.length ≤ 16384 := by
  rw [State.delivers, Bool.and_eq_true, Bool.and_eq_true, Bool.or_eq_true, decide_eq_true_iff,
    decide_eq_true_iff, decide_eq_true_iff, and_assoc]
  rfl

/-- A downstream frame goes by the room among the taken frames and by what it is for. -/
theorem exec_downstreamFrame {s : State} (t : TreeId) (h : HomeIdx) (frame : List Byte)
    (hup : s.inReset = none) : exec (.downstreamFrame t h frame) s = .next
      (if 64 ≤ (s.tree t).tx.taken.length then s
        else if s.delivers t h frame then (s.modTree t (fun tr =>
          { tr with tx := { tr.tx with taken := tr.tx.taken ++ [{ home := h, bytes := frame }] } })).countDown
            t h frame.length
        else s.modTree t (fun tr => { tr with downDiscards := bump tr.downDiscards })) :=
  State.whileUp_up hup _

/-- The oldest taken frame has gone out. -/
def State.sentDown (s : State) (t : TreeId) (f : TakenFrame) (rest : List TakenFrame) : State :=
  (s.modTree t (fun tr => { tr with tx := { tr.tx with
      taken := rest, lineRoom := tr.tx.lineRoom - f.bytes.length } })).emit
    (.downstream t f.home f.bytes)

theorem exec_takenFrameSent_nil {s : State} {t : TreeId} (hup : s.inReset = none)
    (hnone : (s.tree t).tx.taken = []) : exec (.takenFrameSent t) s = .next s := by
  simp only [exec, execTakenFrameSent, State.whileUp_up hup, hnone]

theorem exec_takenFrameSent_cons {s : State} {t : TreeId} {f : TakenFrame} {rest : List TakenFrame}
    (hup : s.inReset = none) (hsome : (s.tree t).tx.taken = f :: rest) :
    exec (.takenFrameSent t) s = .next
      (if f.bytes.length ≤ (s.tree t).tx.lineRoom then s.sentDown t f rest else s) := by
  simp only [exec, execTakenFrameSent, State.whileUp_up hup, hsome]
  rfl

/-- Settles O45: the port by its three cases, and the line by what fits. -/
theorem downstreamFramesAreTakenAndSent : Obligations.DownstreamFramesAreTakenAndSent := by
  refine ⟨fun s t h frame hup => ?_, fun s t hup => ⟨exec_takenFrameSent_nil hup, fun f rest hsome =>
    ⟨fun room hroom => ?_, fun hshort => ?_⟩⟩⟩
  · intro c state delivered
    have hdelivers : s.delivers t h frame = true ↔ delivered := s.delivers_iff t h frame
    have hexec : exec c s = _ := exec_downstreamFrame t h frame hup
    refine ⟨fun hfull => by rw [hexec, if_pos hfull], fun hroom hgood => ?_, fun hroom hbad => ?_⟩
    · rw [hexec, if_neg (Nat.not_le.mpr hroom), if_pos (hdelivers.mpr hgood)]
    · rw [hexec, if_neg (Nat.not_le.mpr hroom), if_neg fun hgood => hbad (hdelivers.mp hgood)]
      rfl
  · rw [exec_takenFrameSent_cons hup hsome, if_pos (by omega)]
    refine ⟨_, rfl, rfl, fun v hv => ?_, ?_⟩
    · rw [State.sentDown, State.emit_tree, State.tree_modTree_other _ _ _ _ hv]
    · rw [State.sentDown, State.emit_tree, State.tree_modTree_self, hroom, Nat.add_sub_cancel_left]
  · rw [exec_takenFrameSent_cons hup hsome, if_neg (Nat.not_le.mpr hshort)]

end Sys2Proof.Machine
end

section
/-! SUPPORT. Block 1600 (section 1.4): what the Monitor and the Meter leave alone at a round receive end, and
the lit count; then the statement O40. -/

namespace Sys2Proof.Machine

/-! ### What a round receive end leaves alone -/

section monitor
variable (s : State) (t : TreeId)

theorem State.onlyWatch_refl : s.onlyWatch s t :=
  ⟨s.sameChip_refl, rfl, rfl, fun _ _ => rfl, (s.tree t).sameLine_refl, rfl⟩

theorem State.enterSearch_onlyWatch (cause : AlarmCause) : s.onlyWatch (s.enterSearch t cause) t := by
  unfold State.enterSearch
  dsimp only
  split
  · exact (s.alarm_onlyWatch t _).trans (State.enterForeign_onlyWatch _ t _)
  · exact (s.alarm_onlyWatch t _).trans (State.chooseHalf_onlyWatch _ t _ _)

theorem State.keepClearStreak_onlyWatch (d : Search) (lit : Bool) :
    s.onlyWatch (s.keepClearStreak t d lit) t := by
  unfold State.keepClearStreak
  split_ifs
  · exact s.setLight_onlyWatch t _
  · exact s.setTestDark_setLight_onlyWatch t _ _
  · exact s.setLight_onlyWatch t _

theorem State.searchReceiveEnd_onlyWatch (d : Search) (round : Nat) (lit : Bool) :
    s.onlyWatch (s.searchReceiveEnd t d round lit) t := by
  unfold State.searchReceiveEnd
  split
  · split
    · exact s.judged_onlyWatch t _ _
    · exact s.keepClearStreak_onlyWatch t d lit
  · split
    · exact s.setLight_onlyWatch t _
    · exact s.keepClearStreak_onlyWatch t d lit
  · exact s.keepClearStreak_onlyWatch t d lit

theorem State.endVerify_onlyWatch (v : Verify) : s.onlyWatch (s.endVerify t v) t := by
  unfold State.endVerify
  split
  · exact (s.raise_onlyWatch t _).trans (State.enterForeign_onlyWatch _ t _)
  · exact (s.alarm_onlyWatch t _).trans (State.setLight_onlyWatch _ t _)

theorem State.verifyReceiveEnd_onlyWatch (v : Verify) (round : Nat) (lit : Bool) :
    s.onlyWatch (s.verifyReceiveEnd t v round lit) t := by
  unfold State.verifyReceiveEnd
  split
  · exact s.onlyWatch_refl t
  · dsimp only
    split_ifs
    · exact s.endVerify_onlyWatch t _
    · exact s.setLight_onlyWatch t _
    · exact s.onlyWatch_refl t

/-- The Monitor's round receive end changes the watch of its tree alone. -/
theorem State.monitorReceiveEnd_onlyWatch (round : Nat) (lit : Bool) :
    s.onlyWatch (s.monitorReceiveEnd t round lit) t := by
  unfold State.monitorReceiveEnd
  split
  · split_ifs
    · exact s.enterSearch_onlyWatch t _
    · exact s.setLight_onlyWatch t _
    · exact s.setLight_onlyWatch t _
  · exact s.searchReceiveEnd_onlyWatch t _ round lit
  · exact s.verifyReceiveEnd_onlyWatch t _ round lit
  · exact s.onlyWatch_refl t
  · exact s.onlyWatch_refl t

end monitor

/-- Of the trees, only homes' usage entries differ, and of the Meter only the readout table: what the cuts
of a round receive end may change. -/
def State.onlyCuts (s u : State) : Prop :=
  u = { s with trees := u.trees, meter := { s.meter with readouts := u.meter.readouts } }
    ∧ ∀ v, u.tree v = { s.tree v with homes := (u.tree v).homes }
      ∧ ∀ h, ∃ x, u.home v h = { s.home v h with usage := x }

theorem State.onlyCuts.refl (s : State) : s.onlyCuts s := ⟨rfl, fun _ => ⟨rfl, fun _ => ⟨_, rfl⟩⟩⟩

theorem State.onlyCuts.trans {a b c : State} (p : a.onlyCuts b) (q : b.onlyCuts c) : a.onlyCuts c := by
  obtain ⟨pstate, ptree⟩ := p
  obtain ⟨qstate, qtree⟩ := q
  refine ⟨?_, fun v => ⟨?_, fun h => ?_⟩⟩
  · rw [qstate, pstate]
  · rw [(qtree v).1, (ptree v).1]
  · obtain ⟨x, hx⟩ := (ptree v).2 h
    obtain ⟨y, hy⟩ := (qtree v).2 h
    exact ⟨y, by rw [hy, hx]⟩

theorem State.countRounds_onlyCuts (s : State) (t : TreeId) (round : Nat) :
    s.onlyCuts (s.countRounds t round) := by
  refine ⟨rfl, fun v => ?_⟩
  by_cases hv : v = t
  · subst hv
    exact ⟨by rw [s.countRounds_tree]; rfl, fun h => ⟨_, s.countRounds_home v round h⟩⟩
  · have hother := s.countRounds_tree_other t round v hv
    exact ⟨by rw [hother], fun h => ⟨_, by rw [State.home, hother]; rfl⟩⟩

theorem State.cut_onlyCuts (s : State) (e : Readout) : s.onlyCuts (s.cut e) := by
  cases hrange : e.range with
  | departed =>
    rw [State.cut, hrange]
    exact .refl s
  | usage t first =>
    refine ⟨by rw [s.cut_usage hrange]; rfl, fun v => ?_⟩
    by_cases hv : v = t
    · subst hv
      refine ⟨by rw [s.cut_tree hrange]; rfl, fun h => ?_⟩
      rw [s.cut_home hrange]
      split
      · exact ⟨_, rfl⟩
      · exact ⟨_, rfl⟩
    · have hother := s.cut_tree_other hrange v hv
      exact ⟨by rw [hother], fun h => ⟨_, by rw [State.home, hother]; rfl⟩⟩

theorem State.onlyCuts_foldl (l : List Readout) (s : State) : s.onlyCuts (l.foldl State.cut s) := by
  induction l generalizing s with
  | nil => exact .refl s
  | cons e l ih => exact (s.cut_onlyCuts e).trans (ih _)

/-- The Meter's round receive end changes usage entries and the readout table. -/
theorem State.meterReceiveEnd_onlyCuts (s : State) (t : TreeId) (round : Nat) :
    s.onlyCuts (s.meterReceiveEnd t round) :=
  (s.countRounds_onlyCuts t round).trans (State.onlyCuts_foldl _ _)

/-! ### The lit count (R16, R19) -/

/-- The lit blocks that count, one by one. -/
theorem litFrom_eq (counts : Nat → Bool) (litLevel : Int) (b : Nat) (levels : List Int) :
    litFrom counts litLevel b levels = ((List.range levels.length).filter
      (fun k => counts (b + k) && decide (litLevel ≤ levels.getD k 0))).length := by
  induction levels generalizing b with
  | nil => rfl
  | cons level rest ih =>
    rw [litFrom, ih, List.length_cons, List.range_succ_eq_map, List.filter_cons, List.filter_map,
      Nat.add_zero, List.getD_cons_zero]
    have htail : (fun k => counts (b + k) && decide (litLevel ≤ (level :: rest).getD k 0)) ∘ Nat.succ
        = fun k => counts (b + 1 + k) && decide (litLevel ≤ rest.getD k 0) := by
      funext k
      rw [Function.comp_apply, List.getD_cons_succ, Nat.succ_eq_add_one, Nat.add_assoc, Nat.add_comm 1 k]
    rw [htail]
    change _ = (if (counts b && decide (litLevel ≤ level)) = true then _ else _ : List Nat).length
    split
    · rw [List.length_cons, List.length_map, Nat.add_comm]
    · rw [List.length_map, Nat.zero_add]

/-- A block below the tail counts where it is in no burst, outside the discovery window and in no
overrun span. -/
theorem Window.counts_of_lt (w : Window) {b : Nat} (hb : b < 3960) : w.counts b =
    (!w.plan.grants.any (fun g => decide (g.start ≤ b ∧ b ≤ g.start + 2 + g.payload))
      && !(w.plan.call && decide (1960 ≤ b))
      && !w.testSpans.any (fun (span : Int) =>
          decide (span < 8 * ((b : Int) + 1) ∧ 8 * (b : Int) < span + 8))) := by
  have hburst : w.plan.inBurst b =
      w.plan.grants.any (fun g => decide (g.start ≤ b ∧ b ≤ g.start + 2 + g.payload)) := by
    refine congrArg w.plan.grants.any (funext fun g => ?_)
    rw [Bool.decide_and]
    rfl
  have hwindow : w.plan.inWindow b = (w.plan.call && decide (1960 ≤ b)) := by
    have hend : decide (b < Config.windowStart + Config.windowBlocks) = true := decide_eq_true hb
    rw [Plan.inWindow, hend, Bool.and_true]
    rfl
  have hspan : inSpan b = fun (span : Int) =>
      decide (span < 8 * ((b : Int) + 1) ∧ 8 * (b : Int) < span + 8) := by
    funext span
    rw [Bool.decide_and]
    rfl
  have htail : decide (b < Config.tailStart) = true := decide_eq_true hb
  rw [Window.counts, Plan.dark, htail, hburst, hwindow, hspan, Bool.true_and,
    Bool.and_comm (!(w.plan.call && decide (1960 ≤ b)))]

/-! ### ROUND_RECEIVE_END (R13, R20) -/

/-- The window of the plan that awaited the present round is opened, on a tree whose awaiting plans are
`awaiting`, and block 1600 has come. -/
theorem openWindow_receiveDue (s : State) (t : TreeId) {a : Receiver} (round : Nat)
    (hround : s.round = round) (hawaiting : (s.tree t).rx.awaiting = a.awaiting) :
    (s.openWindow t).modTree t (fun tr => { tr with receiveDue := false }) = s.modTree t (fun tr =>
      match a.awaiting.find? (fun p => decide (p.round = round)) with
      | some p => { tr with
          receiveDue := false
          rx := { tr.rx with
            awaiting := a.awaiting.erase p
            window := some { plan := p, headers := [], settled := 0, lit := 0, testSpans := []
                             replyStep := 0, replyBlind := false } } }
      | none => { tr with receiveDue := false }) := by
  rw [State.openWindow, State.modTree_modTree, hround]
  refine State.modTree_congr ?_
  rw [hawaiting]
  cases a.awaiting.find? (fun p => decide (p.round = round)) <;> rfl

theorem exec_roundReceiveEnd {s : State} (t : TreeId) (levels : List Int) (hup : s.inReset = none) :
    exec (.roundReceiveEnd t levels) s = .next (if (s.tree t).receiveDue && s.enabled t then
      ((s.closeWindow t levels).openWindow t).modTree t (fun tr => { tr with receiveDue := false })
    else s) :=
  State.whileUp_up hup _

/-- The state after the Receiver has closed the window with a lit count, and the Monitor and the Meter
have taken its round receive end. -/
def State.windowClosed (s : State) (t : TreeId) (round count : Nat) : State :=
  ((s.modTree t (fun tr => { tr with
      rx := { tr.rx with window := none, lastLit := some count } })).monitorReceiveEnd
    t round (decide (s.cfg.darkLitMin ≤ count))).meterReceiveEnd t round

theorem State.closeWindow_none {s : State} {t : TreeId} (levels : List Int)
    (hnone : (s.tree t).rx.window = none) : s.closeWindow t levels = s := by
  simp only [State.closeWindow, hnone]

theorem State.closeWindow_some {s : State} {t : TreeId} {w : Window} (levels : List Int)
    (hsome : (s.tree t).rx.window = some w) : s.closeWindow t levels =
      s.windowClosed t w.plan.round (w.litCount s.cfg.litLevel levels) := by
  simp only [State.closeWindow, hsome]
  rfl

/-- Closing a window leaves the clock and the awaiting plans. -/
theorem State.windowClosed_frame (s : State) (t : TreeId) (round count : Nat) :
    (s.windowClosed t round count).round = s.round
    ∧ ((s.windowClosed t round count).tree t).rx =
        { (s.tree t).rx with window := none, lastLit := some count } := by
  let closed := s.modTree t (fun tr => { tr with
    rx := { tr.rx with window := none, lastLit := some count } })
  let watched := closed.monitorReceiveEnd t round (decide (s.cfg.darkLitMin ≤ count))
  have hclosed : (closed.tree t).rx = { (s.tree t).rx with window := none, lastLit := some count } := by
    rw [State.tree_modTree_self]
  obtain ⟨⟨⟨-, -, hround, -⟩, -⟩, -, -, -, ⟨hrx, -⟩, -⟩ :=
    closed.monitorReceiveEnd_onlyWatch t round (decide (s.cfg.darkLitMin ≤ count))
  obtain ⟨hstate, htree⟩ := watched.meterReceiveEnd_onlyCuts t round
  have hend : (s.windowClosed t round count).round = watched.round := by
    rw [show s.windowClosed t round count = _ from hstate]
  refine ⟨hend.trans hround, ?_⟩
  rw [show (s.windowClosed t round count).tree t = _ from (htree t).1]
  exact hrx.trans hclosed

/-- Settles O40: the window closes with its count, and what awaits the present round opens. -/
theorem windowClosesAndTheNextOpens : Obligations.WindowClosesAndTheNextOpens := by
  intro s t levels hup hlength a opened
  have hexec := exec_roundReceiveEnd t levels hup
  refine ⟨fun hnotDue => ?_, fun hdue henabled => ?_⟩
  · have hidle : ¬ ((s.tree t).receiveDue && s.enabled t) = true := by
      rcases hnotDue with h | h <;> simp [show _ = false from h, a]
    rw [hexec, if_neg hidle]
  · have hdue' : ((s.tree t).receiveDue && s.enabled t) = true := by
      rw [show (s.tree t).receiveDue = true from hdue, henabled]
      rfl
    rw [hexec, if_pos hdue']
    refine ⟨fun hnone => ?_, fun w hsome => ?_⟩
    · rw [State.closeWindow_none levels hnone]
      exact congrArg _ (openWindow_receiveDue s t (a := a.rx) s.round rfl rfl)
    · intro inBurst inCall inTest count
      have hcount : w.litCount s.cfg.litLevel levels = count := by
        rw [Window.litCount, litFrom_eq, hlength]
        refine congrArg (w.lit + ·) (congrArg List.length (List.filter_congr fun b hb => ?_))
        rw [Nat.zero_add, w.counts_of_lt (List.mem_range.mp hb), Bool.and_comm, ← Bool.and_assoc,
          ← Bool.and_assoc]
      obtain ⟨hround, hrx⟩ := s.windowClosed_frame t w.plan.round count
      rw [State.closeWindow_some levels hsome, hcount]
      exact congrArg _ (openWindow_receiveDue _ t (a := a.rx) s.round hround (by rw [hrx]))

end Sys2Proof.Machine
end

section
/-! SUPPORT. The control-word queue and the round header (section 1.3): the statements O38 and O39. -/

namespace Sys2Proof.Machine

/-! ### A word is queued (R8, R9) -/

section push
variable {tx : Transmitter} {w : ControlWord}

theorem Transmitter.push_room (w : ControlWord) (hroom : tx.words.length < 160) :
    tx.push w = ({ tx with words := tx.words ++ [w] }, false) :=
  if_pos hroom

theorem Transmitter.push_displaces {older younger : List ControlWord} {x : ControlWord}
    (hfull : 160 ≤ tx.words.length) (hw : w.priority = true) (hwords : tx.words = older ++ x :: younger)
    (hx : x.priority = false) (hyoung : ∀ y ∈ younger, y.priority = true) :
    tx.push w = ({ tx with words := older ++ younger ++ [w], drops := bump tx.drops }, false) := by
  have hplaces : ¬ tx.words.length < Config.wordPlaces := Nat.not_lt.mpr hfull
  have hany : tx.words.any ControlWord.ordinary = true :=
    List.any_eq_true.mpr ⟨x, by simp [hwords], by simp [ControlWord.ordinary, hx]⟩
  have hdrop : dropYoungest ControlWord.ordinary tx.words = older ++ younger := by
    rw [hwords]
    exact dropYoungest_middle (by simp [ControlWord.ordinary, hx])
      fun y hy => by simp [ControlWord.ordinary, hyoung y hy]
  rw [Transmitter.push, if_neg hplaces, hw, hany, hdrop]
  rfl

theorem Transmitter.push_drops (hfull : 160 ≤ tx.words.length)
    (hlost : w.priority = false ∨ ∀ x ∈ tx.words, x.priority = true) :
    tx.push w = ({ tx with drops := bump tx.drops }, true) := by
  have hplaces : ¬ tx.words.length < Config.wordPlaces := Nat.not_lt.mpr hfull
  have hnone : ¬ (w.priority && tx.words.any ControlWord.ordinary) = true := by
    rcases hlost with hw | hall
    · simp [hw]
    · have hany : tx.words.any ControlWord.ordinary = false := by
        rw [List.any_eq_false]
        exact fun x hx => by simp [ControlWord.ordinary, hall x hx]
      simp [hany]
  rw [Transmitter.push, if_neg hplaces, if_neg hnone]

/-- A push touches the queue and the drop counter alone. -/
theorem Transmitter.push_eq (tx : Transmitter) (w : ControlWord) :
    (tx.push w).1 = { tx with words := (tx.push w).1.words, drops := (tx.push w).1.drops } := by
  unfold Transmitter.push
  split_ifs <;> rfl

theorem Transmitter.push_length_le (tx : Transmitter) (w : ControlWord) (hle : tx.words.length ≤ 160) :
    (tx.push w).1.words.length ≤ 160 := by
  rcases Nat.lt_or_ge tx.words.length 160 with hroom | hfull
  · rw [Transmitter.push_room w hroom, List.length_append, List.length_singleton]
    exact hroom
  · cases hw : w.priority with
    | false => rw [Transmitter.push_drops hfull (.inl hw)]; exact hle
    | true =>
      by_cases hall : ∀ x ∈ tx.words, x.priority = true
      · rw [Transmitter.push_drops hfull (.inr hall)]
        exact hle
      · have hany : ∃ x ∈ tx.words, ControlWord.ordinary x = true := by
          simpa [ControlWord.ordinary] using hall
        obtain ⟨older, x, younger, hwords, hx, hyoung⟩ := exists_youngest hany
        rw [Transmitter.push_displaces hfull hw hwords (by simpa [ControlWord.ordinary] using hx)
          fun y hy => by simpa [ControlWord.ordinary] using hyoung y hy]
        rw [hwords] at hle
        simpa using hle

end push

/-! ### The words a header takes (R8, R10) -/

/-- The order in which the header of the map of `round` takes words; 3 for those it leaves. -/
def ControlWord.rank (round : Nat) : ControlWord → Nat
  | .testDark m _ => if m = round then 0 else 3
  | .darken _ | .light _ | .dismissAll => 1
  | .setDelay _ _ _ | .dismiss _ => 2

/-- The words of one rank. -/
def ofRank (round k : Nat) (w : ControlWord) : Bool := decide (w.rank round = k)

theorem testDarkFor_eq (round : Nat) : ControlWord.testDarkFor round = ofRank round 0 := by
  funext w
  cases w with
  | testDark m homes => by_cases hm : m = round <;> simp [ControlWord.testDarkFor, ofRank, ControlWord.rank, hm]
  | _ => rfl

theorem freePriority_eq (round : Nat) : ControlWord.freePriority = ofRank round 1 := by
  funext w
  cases w with
  | testDark m homes => by_cases hm : m = round <;> simp [ControlWord.freePriority, ofRank, ControlWord.rank, hm]
  | _ => rfl

theorem ordinary_eq (round : Nat) : ControlWord.ordinary = ofRank round 2 := by
  funext w
  cases w with
  | testDark m homes =>
    by_cases hm : m = round <;>
      simp [ControlWord.ordinary, ControlWord.priority, ofRank, ControlWord.rank, hm]
  | _ => rfl

section drop
variable {α : Type} {p q : α → Bool}

theorem dropOldest_sublist (k : Nat) (l : List α) : (dropOldest p k l).Sublist l := by
  induction l generalizing k with
  | nil => cases k <;> exact .refl _
  | cons a l ih =>
    cases k with
    | zero => exact .refl _
    | succ k =>
      rw [dropOldest]
      split
      · exact (ih k).trans (List.sublist_cons_self a l)
      · exact (ih (k + 1)).cons₂ a

theorem filter_dropOldest_self (k : Nat) (l : List α) :
    (dropOldest p k l).filter p = (l.filter p).drop k := by
  induction l generalizing k with
  | nil => cases k <;> rfl
  | cons a l ih =>
    cases k with
    | zero => rfl
    | succ k =>
      rw [dropOldest]
      split
      · next ha => rw [ih, List.filter_cons_of_pos ha, List.drop_succ_cons]
      · next ha => rw [List.filter_cons_of_neg ha, ih, List.filter_cons_of_neg ha]

theorem filter_dropOldest_other (hpq : ∀ a, p a = true → q a = false) (k : Nat) (l : List α) :
    (dropOldest p k l).filter q = l.filter q := by
  induction l generalizing k with
  | nil => cases k <;> rfl
  | cons a l ih =>
    cases k with
    | zero => rfl
    | succ k =>
      rw [dropOldest]
      split
      · next ha => rw [ih, List.filter_cons_of_neg (by simp [hpq a ha])]
      · rw [List.filter_cons, ih, List.filter_cons]

end drop

section header
variable (round : Nat) (words : List ControlWord)

/-- The words that a header may take, in the order in which it takes them. -/
def wordsInOrder : List ControlWord :=
  words.filter (ofRank round 0) ++ words.filter (ofRank round 1) ++ words.filter (ofRank round 2)

theorem wordsFor_eq : wordsFor round words = (wordsInOrder round words).take 16 := by
  rw [wordsFor, testDarkFor_eq, freePriority_eq round, ordinary_eq round]
  rfl

theorem wordsLeft_eq : wordsLeft round words =
    dropOldest (ofRank round 0) ((wordsFor round words).countP (ofRank round 0))
      (dropOldest (ofRank round 1) ((wordsFor round words).countP (ofRank round 1))
        (dropOldest (ofRank round 2) ((wordsFor round words).countP (ofRank round 2)) words)) := by
  rw [wordsLeft, takenOf, takenOf, takenOf, testDarkFor_eq, freePriority_eq round, ordinary_eq round]

theorem ofRank_disjoint {j k : Nat} (hjk : j ≠ k) (w : ControlWord) (hw : ofRank round j w = true) :
    ofRank round k w = false := by
  have hrank := of_decide_eq_true hw
  exact decide_eq_false (by omega)

theorem rank_le (w : ControlWord) : w.rank round ≤ 3 := by
  cases w with
  | testDark m homes =>
    change (if m = round then 0 else 3) ≤ 3
    split <;> omega
  | _ => simp [ControlWord.rank]

theorem filter_ofRank_filter (j k : Nat) : (words.filter (ofRank round j)).filter (ofRank round k) =
    if j = k then words.filter (ofRank round k) else [] := by
  rw [List.filter_filter]
  split
  · next h => subst h; simp
  · next h =>
    refine List.filter_eq_nil_iff.mpr fun w _ => ?_
    cases hw : ofRank round j w with
    | false => simp
    | true => simp [ofRank_disjoint round h w hw]

theorem filter_wordsInOrder {k : Nat} (hk : k ≤ 2) :
    (wordsInOrder round words).filter (ofRank round k) = words.filter (ofRank round k) := by
  rw [wordsInOrder, List.filter_append, List.filter_append]
  simp only [filter_ofRank_filter]
  rcases (by omega : k = 0 ∨ k = 1 ∨ k = 2) with rfl | rfl | rfl <;> simp

theorem rank_le_of_mem_wordsInOrder {w : ControlWord} (hw : w ∈ wordsInOrder round words) :
    w.rank round ≤ 2 := by
  simp only [wordsInOrder, List.mem_append, List.mem_filter, ofRank, decide_eq_true_eq] at hw
  omega

theorem pairwise_wordsInOrder :
    (wordsInOrder round words).Pairwise (fun v w => v.rank round ≤ w.rank round) := by
  have hone : ∀ k, (words.filter (ofRank round k)).Pairwise (fun v w => v.rank round ≤ w.rank round) :=
    fun k => List.pairwise_of_forall_mem_list fun v hv w hw => by
      rw [of_decide_eq_true (List.mem_filter.mp hv).2, of_decide_eq_true (List.mem_filter.mp hw).2]
  rw [wordsInOrder, List.pairwise_append, List.pairwise_append]
  refine ⟨⟨hone 0, hone 1, fun v hv w hw => ?_⟩, hone 2, fun v hv w hw => ?_⟩
  · rw [of_decide_eq_true (List.mem_filter.mp hv).2]
    exact Nat.zero_le _
  · rw [of_decide_eq_true (List.mem_filter.mp hw).2]
    exact rank_le_of_mem_wordsInOrder round words (List.mem_append_left _ hv)

/-- Of each class the words left are those after the ones taken. -/
theorem filter_wordsLeft {k : Nat} (hk : k ≤ 2) : (wordsLeft round words).filter (ofRank round k) =
    (words.filter (ofRank round k)).drop ((wordsFor round words).countP (ofRank round k)) := by
  rw [wordsLeft_eq]
  have hother : ∀ {j : Nat} (n : Nat) (l : List ControlWord), j ≠ k →
      (dropOldest (ofRank round j) n l).filter (ofRank round k) = l.filter (ofRank round k) :=
    fun n l hjk => filter_dropOldest_other (ofRank_disjoint round hjk) n l
  rcases (by omega : k = 0 ∨ k = 1 ∨ k = 2) with rfl | rfl | rfl
  · rw [filter_dropOldest_self, hother _ _ (by decide), hother _ _ (by decide)]
  · rw [hother _ _ (by decide), filter_dropOldest_self, hother _ _ (by decide)]
  · rw [hother _ _ (by decide), hother _ _ (by decide), filter_dropOldest_self]

theorem filter_wordsFor {k : Nat} (hk : k ≤ 2) : (wordsFor round words).filter (ofRank round k) =
    (words.filter (ofRank round k)).take ((wordsFor round words).countP (ofRank round k)) := by
  have hprefix : wordsFor round words <+: wordsInOrder round words := by
    rw [wordsFor_eq]
    exact List.take_prefix _ _
  have hclass := hprefix.filter (ofRank round k)
  rw [filter_wordsInOrder round words hk] at hclass
  rw [List.countP_eq_length_filter]
  exact List.prefix_iff_eq_take.mp hclass

/-- In each class the words of the queue are those taken followed by those left. -/
theorem filter_taken_left (k : Nat) : words.filter (ofRank round k) =
    (wordsFor round words).filter (ofRank round k) ++ (wordsLeft round words).filter (ofRank round k) := by
  by_cases hk : k ≤ 2
  · rw [filter_wordsFor round words hk, filter_wordsLeft round words hk, List.take_append_drop]
  · have htaken : (wordsFor round words).filter (ofRank round k) = [] :=
      List.filter_eq_nil_iff.mpr fun w hw => by
        rw [wordsFor_eq] at hw
        have := rank_le_of_mem_wordsInOrder round words (List.mem_of_mem_take hw)
        simp only [ofRank, decide_eq_true_eq]
        omega
    have hother : ∀ {j : Nat} (n : Nat) (l : List ControlWord), j ≠ k →
        (dropOldest (ofRank round j) n l).filter (ofRank round k) = l.filter (ofRank round k) :=
      fun n l hjk => filter_dropOldest_other (ofRank_disjoint round hjk) n l
    rw [htaken, List.nil_append, wordsLeft_eq, hother _ _ (by omega), hother _ _ (by omega),
      hother _ _ (by omega)]

theorem filter_left_eq_rest {k : Nat} (hk : k ≤ 2) : (wordsLeft round words).filter (ofRank round k) =
    ((wordsInOrder round words).drop 16).filter (ofRank round k) := by
  have hqueue := filter_taken_left round words k
  rw [← filter_wordsInOrder round words hk] at hqueue
  conv_lhs at hqueue => rw [← List.take_append_drop 16 (wordsInOrder round words), List.filter_append,
    ← wordsFor_eq]
  exact (List.append_cancel_left hqueue).symm

theorem wordsLeft_sublist : (wordsLeft round words).Sublist words := by
  rw [wordsLeft_eq]
  exact (dropOldest_sublist _ _).trans ((dropOldest_sublist _ _).trans (dropOldest_sublist _ _))

theorem perm_taken_left : (wordsFor round words ++ wordsLeft round words).Perm words := by
  refine List.perm_iff_count.mpr fun w => ?_
  have hself : ofRank round (w.rank round) w = true := decide_eq_true rfl
  rw [List.count_append, ← List.count_filter (l := words) hself,
    filter_taken_left round words (w.rank round), List.count_append, List.count_filter hself,
    List.count_filter hself]

/-- A word that the header leaves, though it could carry it, stands after every word taken. -/
theorem rank_taken_le_left {v w : ControlWord} (hv : v ∈ wordsFor round words)
    (hw : w ∈ wordsLeft round words) : v.rank round ≤ w.rank round := by
  rw [wordsFor_eq] at hv
  have hv2 := rank_le_of_mem_wordsInOrder round words (List.mem_of_mem_take hv)
  by_cases hrank : w.rank round ≤ 2
  · have hrest : w ∈ (wordsInOrder round words).drop 16 := by
      have hmem : w ∈ (wordsLeft round words).filter (ofRank round (w.rank round)) :=
        List.mem_filter.mpr ⟨hw, decide_eq_true rfl⟩
      rw [filter_left_eq_rest round words hrank] at hmem
      exact (List.mem_filter.mp hmem).1
    have hsorted := pairwise_wordsInOrder round words
    rw [← List.take_append_drop 16 (wordsInOrder round words), List.pairwise_append] at hsorted
    exact hsorted.2.2 v hv w hrest
  · omega

/-- A header with room left leaves only TEST-DARK words of other maps. -/
theorem rank_left_of_short (hshort : (wordsFor round words).length < 16) {w : ControlWord}
    (hw : w ∈ wordsLeft round words) : w.rank round = 3 := by
  by_contra hrank
  have hle : w.rank round ≤ 2 := by
    have := rank_le round w
    omega
  have hmem : w ∈ (wordsLeft round words).filter (ofRank round (w.rank round)) :=
    List.mem_filter.mpr ⟨hw, decide_eq_true rfl⟩
  have hempty : (wordsInOrder round words).drop 16 = [] := by
    rw [wordsFor_eq, List.length_take] at hshort
    exact List.drop_eq_nil_of_le (by omega)
  rw [filter_left_eq_rest round words hle, hempty] at hmem
  exact absurd hmem List.not_mem_nil

end header

/-- Settles O39: the words taken are the first 16 in the order of ranks, and the push goes by room and
class. -/
theorem wordsAreQueuedAndSentByClass : Obligations.WordsAreQueuedAndSentByClass := by
  refine ⟨fun round words => ?_, fun tx w => ?_⟩
  · intro taken left rank
    have hrank : rank = ControlWord.rank round := by
      funext w
      cases w <;> rfl
    have hlength : taken.length ≤ 16 := by
      rw [show taken = _ from wordsFor_eq round words]
      exact List.length_take_le _ _
    have hmem : ∀ w ∈ taken, w ∈ wordsInOrder round words := fun w hw => by
      rw [show taken = _ from wordsFor_eq round words] at hw
      exact List.mem_of_mem_take hw
    rw [hrank]
    refine ⟨hlength, perm_taken_left round words, wordsLeft_sublist round words, ?_,
      filter_taken_left round words, fun w hw => rank_le_of_mem_wordsInOrder round words (hmem w hw),
      fun hshort w hw => rank_left_of_short round words hshort hw,
      fun v hv w hw => rank_taken_le_left round words hv hw⟩
    rw [show taken = _ from wordsFor_eq round words]
    exact (pairwise_wordsInOrder round words).sublist (List.take_sublist _ _)
  · intro drops
    refine ⟨fun hroom => by rw [Transmitter.push_room w hroom], fun hfull hw =>
      ⟨fun older younger x hwords hx hyoung => ?_, fun hall => Transmitter.push_drops hfull (.inr hall)⟩,
      fun hfull hw => Transmitter.push_drops hfull (.inl hw)⟩
    rw [Transmitter.push_displaces hfull hw hwords hx hyoung]
    rfl

/-! ### The refresh (R11) -/

/-- The Transmitter after the refresh of an index whose record is in the state given. -/
def Transmitter.renewed (tx : Transmitter) (state : RecordState) (h : HomeIdx) : Transmitter :=
  (refreshWord state h).elim tx (fun w => (tx.push w).1)

theorem State.refresh_eq (s : State) (t : TreeId) (h : HomeIdx) : s.refresh t h =
    s.modTree t (fun tr => { tr with tx := tr.tx.renewed (s.record t h).state h }) := by
  unfold State.refresh Transmitter.renewed
  cases refreshWord (s.record t h).state h with
  | none => exact (s.modTree_same t rfl).symm
  | some w => rfl

theorem refreshIndex_eq {m k : Nat} {h : HomeIdx} (hh : h.val = 2 * (m % 64) + k) :
    refreshIndex m k = h := by
  refine Fin.ext ?_
  have hval : (refreshIndex m k).val = (2 * (m % 64) + k) % 128 := rfl
  omega

/-! ### ROUND_HEADER (R5, R8, R13, R138) -/

theorem Transmitter.planFor_eq {tx : Transmitter} {round : Nat} {p : Plan}
    (hp : tx.pendingPlans.find? (fun q => decide (q.round = round)) = some p
      ∨ (tx.pendingPlans.find? (fun q => decide (q.round = round)) = none
        ∧ p = { round := round, grants := [], call := false })) : tx.planFor round = p := by
  unfold Transmitter.planFor
  rcases hp with hfound | ⟨hnone, rfl⟩
  · rw [hfound, Option.getD_some]
  · rw [hnone, Option.getD_none]
    rfl

theorem keepYoungest_two {α : Type} (l : List α) (x : α) :
    keepYoungest 2 (l ++ [x]) = (l ++ [x]).drop (l.length - 1) := by
  rw [keepYoungest, List.length_append, List.length_singleton]
  rfl

theorem exec_roundHeader {s : State} (t : TreeId) (hup : s.inReset = none) :
    exec (.roundHeader t) s = .next (if (s.tree t).headerDue && s.enabled t then
      ((s.sendHeader t).refresh t (refreshIndex s.round 0)).refresh t (refreshIndex s.round 1)
    else s) :=
  State.whileUp_up hup _

/-- The tree after its header, before the refresh. -/
def Tree.afterHeader (tr : Tree) (round covered : Nat) (p : Plan) : Tree :=
  { tr with
    tx := { tr.tx with
      words := wordsLeft covered tr.tx.words
      pendingPlans := tr.tx.pendingPlans.filter (fun q => !decide (q.round = covered))
      sentPlan := some p
      lineRoom := 500000 - (headerBytes round p (wordsFor covered tr.tx.words)).length }
    rx := { tr.rx with awaiting := keepYoungest 2 (tr.rx.awaiting ++ [p]) }
    light := tr.light.afterHeader covered (wordsFor covered tr.tx.words)
    headerDue := false }

theorem State.sendHeader_eq {s : State} {t : TreeId} {p : Plan}
    (hp : (s.tree t).tx.planFor (roundAdd s.round 1) = p) : s.sendHeader t =
      (s.modTree t (fun tr => tr.afterHeader s.round (roundAdd s.round 1) p)).emit
        (.header t (headerBytes s.round p (wordsFor (roundAdd s.round 1) (s.tree t).tx.words))) := by
  subst hp
  rfl

/-- Settles O38: the header, then the refresh of the two indices on the tree it leaves. -/
theorem roundHeaderCarriesPlanAndWords : Obligations.RoundHeaderCarriesPlanAndWords := by
  intro s t hup a covered words renew
  have hrenew : ∀ tx h, renew tx h = tx.renewed (s.record t h).state h := fun tx h => by
    simp only [renew, Transmitter.renewed]
    cases (s.record t h).state <;> rfl
  refine ⟨fun hnotDue => ?_, fun hdue henabled p hp h k hh hk => ?_⟩
  · have hidle : ¬ ((s.tree t).headerDue && s.enabled t) = true := by
      rcases hnotDue with h | h <;> simp [show _ = false from h, a]
    rw [exec_roundHeader t hup, if_neg hidle]
  · have hdue' : ((s.tree t).headerDue && s.enabled t) = true := by
      rw [show (s.tree t).headerDue = true from hdue, henabled]
      rfl
    have hplan : (s.tree t).tx.planFor (roundAdd s.round 1) = p := Transmitter.planFor_eq hp
    have hrecord : ∀ i, ((s.sendHeader t).record t i) = s.record t i := fun i => by
      rw [State.sendHeader_eq hplan, State.record, State.home, State.emit_tree, State.tree_modTree_self]
      rfl
    rw [exec_roundHeader t hup, if_pos hdue', refreshIndex_eq (k := 0) hh,
      refreshIndex_eq hk, State.refresh_eq, State.refresh_eq]
    have hstate : ((s.sendHeader t).modTree t (fun tr => { tr with
        tx := tr.tx.renewed ((s.sendHeader t).record t h).state h })).record t k = s.record t k := by
      rw [← hrecord, State.record, State.home, State.tree_modTree_self]
      rfl
    rw [hstate, hrecord, State.modTree_modTree, State.sendHeader_eq hplan]
    refine ⟨_, rfl, rfl, fun v hv => ?_, ?_, fun v hlight hunset hdarken => ?_, fun hkept => ?_⟩
    · rw [State.tree_modTree_other _ _ _ _ hv, State.emit_tree, State.tree_modTree_other _ _ _ _ hv]
    · rw [State.tree_modTree_self, State.emit_tree, State.tree_modTree_self, hrenew, hrenew]
      simp only [Tree.afterHeader, keepYoungest_two, ne_eq, decide_not]
      rfl
    · rw [State.tree_modTree_self, State.emit_tree, State.tree_modTree_self]
      change (s.tree t).light.afterHeader covered words = _
      rw [show (s.tree t).light = _ from hlight]
      exact if_pos ⟨hunset, hdarken⟩
    · rw [State.tree_modTree_self, State.emit_tree, State.tree_modTree_self]
      change (s.tree t).light.afterHeader covered words = (s.tree t).light
      cases hlight : (s.tree t).light with
      | verify v =>
        refine if_neg fun hset => ?_
        exact (hkept v hlight).elim (fun hnot => hnot hset.1) (fun hnot => hnot hset.2)
      | _ => rfl

end Sys2Proof.Machine
end

section
/-! SUPPORT. Arrivals (sections 1.4, 1.5 and 2.4): what each block makes of one; then the statements O42 and
O43. -/

namespace Sys2Proof.Machine

/-! ### What the handling of an arrival does to its home -/

/-- Home `h` of tree `t` becomes `x`, that tree's Transmitter becomes `tx`, the requests `sent` are sent, and
all else stands. -/
def State.handled (s u : State) (t : TreeId) (h : HomeIdx) (x : Home) (tx : Transmitter)
    (sent : List Instr) : Prop :=
  u.home t h = x ∧ (u.tree t).tx = tx ∧ (u.tree t).light = (s.tree t).light ∧ u.meter = s.meter
    ∧ u.serialIndex = s.serialIndex ∧ s.onlyHome u t h ∧ u.bus = s.bus ∧ u.outputs = s.outputs
    ∧ u.inFlight = s.inFlight ++ sent

theorem Tree.eq_of_sameLine {a b : Tree} (hline : a.sameLine b) (htx : b.tx = a.tx)
    (hlight : b.light = a.light) : b = { a with homes := b.homes } := by
  obtain ⟨hrx, henrol, hpointer, hmarks, hup, hdown, hheader, hreceive⟩ := hline
  cases a
  cases b
  subst_vars
  simp_all

theorem State.eq_of_sameChip {s u : State} (hchip : s.sameChip u) (hbus : u.bus = s.bus)
    (hmeter : u.meter = s.meter) (hindex : u.serialIndex = s.serialIndex)
    (houtputs : u.outputs = s.outputs) : u = { s with trees := u.trees, inFlight := u.inFlight } := by
  obtain ⟨⟨hpending, hreset, hround, hbuild, hepoch⟩, -, hshare, hpointer⟩ := hchip
  cases s
  cases u
  simp_all

section handled
variable {s u v : State} {t : TreeId} {h : HomeIdx} {x y : Home} {tx tx' : Transmitter}
  {sent sent' : List Instr}

theorem State.handled.trans (p : s.handled u t h x tx sent) (q : u.handled v t h y tx' sent') :
    s.handled v t h y tx' (sent ++ sent') := by
  obtain ⟨-, -, plight, pmeter, pindex, ponly, pbus, pout, pflight⟩ := p
  obtain ⟨qhome, qtx, qlight, qmeter, qindex, qonly, qbus, qout, qflight⟩ := q
  exact ⟨qhome, qtx, qlight.trans plight, qmeter.trans pmeter, qindex.trans pindex, ponly.trans qonly,
    qbus.trans pbus, qout.trans pout, by rw [qflight, pflight, List.append_assoc]⟩

theorem State.handled_refl (s : State) (t : TreeId) (h : HomeIdx) :
    s.handled s t h (s.home t h) (s.tree t).tx [] :=
  ⟨rfl, rfl, rfl, rfl, rfl, s.onlyHome_refl t h, rfl, rfl, (List.append_nil _).symm⟩

theorem State.handled_modHome (s : State) (t : TreeId) (h : HomeIdx) (f : Home → Home) :
    s.handled (s.modHome t h f) t h (f (s.home t h)) (s.tree t).tx [] :=
  ⟨by simp, by simp, by simp, rfl, rfl, s.modHome_onlyHome t h f, rfl, rfl, (List.append_nil _).symm⟩

theorem State.handled_queueWord (s : State) (t : TreeId) (h : HomeIdx) (w : ControlWord) :
    s.handled (s.queueWord t w) t h (s.home t h) ((s.tree t).tx.push w).1 [] :=
  ⟨by simp, by simp, by simp, rfl, rfl, s.queueWord_onlyHome t h w, rfl, rfl, (List.append_nil _).symm⟩

theorem State.handled_raise (s : State) (t : TreeId) (h : HomeIdx) (c : Instr) :
    s.handled (s.raise c) t h (s.home t h) (s.tree t).tx [c] :=
  ⟨rfl, rfl, rfl, rfl, rfl, s.raise_onlyHome t h c, rfl, rfl, rfl⟩

end handled

/-! ### The home after each block's part (R30, R32, R33, R83, R90, R123) -/

/-- The level of an arrival is kept (R30). -/
def Home.leveled (x : Home) (level : Option Int) : Home :=
  { x with record := { x.record with lastLevel := level.or x.record.lastLevel } }

/-- A header-good arrival ends the silence of an ACTIVE home (R32). -/
def Home.heard (x : Home) : Home :=
  if x.record.state = .active then { x with record := { x.record with silence := some 0 } } else x

/-- Any other arrival counts for the silence of an ACTIVE home, and loses it at SILENT_LIMIT (R32,
R33). -/
def Home.silent (x : Home) (limit hold : Nat) : Home :=
  if x.record.state ≠ .active then x
  else if x.record.silence.getD 0 + 1 < limit then
    { x with record := { x.record with silence := some (x.record.silence.getD 0 + 1) } }
  else { record := x.record.standing .lost (some (max hold 1)), reportSlot := none, trimHold := none
         usage := x.usage }

/-- A home is re-trimmed on an arrival of this timing (R83, R84). -/
def Home.trims (x : Home) (timing : Timing) : Bool :=
  decide (x.record.state = .active) && decide (timing ≠ .arrived) && decide (x.trimHold.getD 0 = 0)

/-- The home after a re-trim by an offset (R83). -/
def Home.trimmed (x : Home) (offset : Int) : Home :=
  { x with
    record := { x.record with
      eqd := some (trimmedDelay (x.record.eqd.getD 0) offset)
      rtt := some (12800 - trimmedDelay (x.record.eqd.getD 0) offset) }
    trimHold := some 16 }

/-- An ACTIVE home's report slot takes the backlog reported (R90). -/
def Home.reported (x : Home) (backlog : Nat) : Home :=
  if x.record.state = .active then { x with reportSlot := some backlog } else x

/-- A home with a score takes a new one (R123). -/
def Home.scored (x : Home) (f : Nat → Nat) : Home :=
  { x with record := { x.record with rogueScore := x.record.rogueScore.map f } }

/-- The quench request that a new score sends where it crosses SCORE_LIMIT (R123, R125). -/
def State.crossing (s : State) (t : TreeId) (h : HomeIdx) (f : Nat → Nat) : List Instr :=
  if (s.record t h).rogueScore.any
      (fun n => decide (n < s.cfg.scoreLimit) && decide (s.cfg.scoreLimit ≤ f n))
  then [.scoreQuenchRequest t h (s.record t h).generation] else []

section blocks
variable (s : State) (a : ArrivalRecord)

theorem State.keepLevel_handled : s.handled (s.keepLevel a) a.tree a.home
    ((s.home a.tree a.home).leveled a.outcome.level?) (s.tree a.tree).tx [] := by
  unfold State.keepLevel
  cases a.outcome.level? with
  | none => exact s.handled_refl _ _
  | some level => exact s.handled_modHome _ _ _

theorem State.keepSilence_good (hgood : a.outcome.isGood = true) :
    s.handled (s.keepSilence a) a.tree a.home (s.home a.tree a.home).heard (s.tree a.tree).tx [] := by
  unfold State.keepSilence Home.heard
  rw [show s.record a.tree a.home = (s.home a.tree a.home).record from rfl]
  rw [hgood]
  dsimp only
  by_cases hactive : (s.home a.tree a.home).record.state = .active
  · rw [if_pos hactive, if_pos rfl, if_pos hactive]
    exact s.handled_modHome _ _ _
  · rw [if_neg hactive, if_neg hactive]
    exact s.handled_refl _ _

/-- The loss of an ACTIVE home posts nothing and leaves the light state (R33). -/
theorem State.handled_lost (t : TreeId) (h : HomeIdx) :
    s.handled (s.changeState t h .lost (some (startTimer s.cfg.lostHold)) .lost) t h
      { record := (s.record t h).standing .lost (some (max s.cfg.lostHold 1))
        reportSlot := none, trimHold := none, usage := (s.home t h).usage } (s.tree t).tx [] := by
  obtain ⟨hbus, hflight, hout⟩ := s.changeState_sameTraffic t h .lost
    (some (startTimer s.cfg.lostHold)) .lost (by decide)
  have hentry := s.entry_standing t h (some (startTimer s.cfg.lostHold)) .lost (new := .lost) rfl
    (by decide)
  rw [darkAfterNotice_stays _ _ (by decide) (by decide)] at hentry
  refine ⟨?_, s.changeState_tx t h _ _ _, ?_, s.changeState_meter t h _ _ _, ?_,
    s.changeState_onlyHome t h _ _ _, hbus, hout, by rw [hflight, List.append_nil]⟩
  · have hchanged : (s.home t h).changed s.cfg.relapseLimit (s.tree t).light .lost
        (some (startTimer s.cfg.lostHold)) .lost =
        { record := s.entry t h .lost (some (startTimer s.cfg.lostHold)) .lost
          reportSlot := none, trimHold := none, usage := (s.home t h).usage } := rfl
    rw [State.changeState_home, hchanged, hentry]
    rfl
  · rw [State.changeState_light]
    exact Light.afterNotice_same _ _ _ (by decide) (by decide) (by decide) (by decide)
  · rw [State.changeState_serialIndex, if_neg (by decide)]

theorem State.keepSilence_bad (hbad : a.outcome.isGood = false) :
    s.handled (s.keepSilence a) a.tree a.home
      ((s.home a.tree a.home).silent s.cfg.silentLimit s.cfg.lostHold) (s.tree a.tree).tx [] := by
  unfold State.keepSilence Home.silent
  rw [show s.record a.tree a.home = (s.home a.tree a.home).record from rfl]
  rw [hbad]
  dsimp only
  by_cases hactive : (s.home a.tree a.home).record.state = .active
  · rw [if_pos hactive, if_neg (by decide), if_neg (not_not.mpr hactive)]
    by_cases hlost : s.cfg.silentLimit ≤ (s.home a.tree a.home).record.silence.getD 0 + 1
    · rw [if_pos hlost, if_neg (Nat.not_lt.mpr hlost)]
      exact s.handled_lost _ _
    · rw [if_neg hlost, if_pos (Nat.not_le.mp hlost)]
      exact s.handled_modHome _ _ _
  · rw [if_neg hactive, if_pos hactive]
    exact s.handled_refl _ _

section good
variable {a} {timing : Timing} {overrun : Bool} {offset level : Int} {backlog used : Nat}

theorem State.retrim_good
    (hgood : a.outcome = .good timing overrun offset level backlog used) :
    s.handled (s.retrim a) a.tree a.home
      (if (s.home a.tree a.home).trims timing then (s.home a.tree a.home).trimmed offset
        else s.home a.tree a.home)
      (if (s.home a.tree a.home).trims timing
        then ((s.tree a.tree).tx.push (.setDelay a.home ((s.record a.tree a.home).serial.getD 0)
          (trimmedDelay ((s.record a.tree a.home).eqd.getD 0) offset))).1
        else (s.tree a.tree).tx) [] := by
  have hretrim : s.retrim a = if (s.home a.tree a.home).trims timing
      then s.retrimBy a.tree a.home offset else s := by
    simp only [State.retrim, hgood]
    refine if_congr ?_ rfl rfl
    rw [Home.trims, Bool.and_eq_true, Bool.and_eq_true, decide_eq_true_iff, decide_eq_true_iff,
      decide_eq_true_iff, and_assoc, and_left_comm]
    rfl
  rw [hretrim]
  split
  · have hqueued := ((s.handled_modHome a.tree a.home (fun x => x.trimmed offset)).trans
      (State.handled_queueWord _ a.tree a.home (.setDelay a.home
        ((s.record a.tree a.home).serial.getD 0)
        (trimmedDelay ((s.record a.tree a.home).eqd.getD 0) offset))))
    rw [State.home_modHome_self, State.tree_modHome_self, Tree.modHome_tx] at hqueued
    exact hqueued
  · exact s.handled_refl _ _

theorem State.keepReport_good
    (hgood : a.outcome = .good timing overrun offset level backlog used) :
    s.handled (s.keepReport a) a.tree a.home ((s.home a.tree a.home).reported backlog)
      (s.tree a.tree).tx [] := by
  simp only [State.keepReport, hgood, Home.reported,
    show s.record a.tree a.home = (s.home a.tree a.home).record from rfl]
  by_cases hactive : (s.home a.tree a.home).record.state = .active
  · rw [if_pos hactive, if_pos hactive]
    exact s.handled_modHome _ _ _
  · rw [if_neg hactive, if_neg hactive]
    exact s.handled_refl _ _

end good

theorem State.setScore_handled (t : TreeId) (h : HomeIdx) (f : Nat → Nat) :
    s.handled (s.setScore t h f) t h ((s.home t h).scored f) (s.tree t).tx (s.crossing t h f) := by
  unfold State.setScore State.crossing
  cases hscore : (s.record t h).rogueScore with
  | none =>
    have hsame : (s.home t h).scored f = s.home t h := by
      have hnone : (s.home t h).record.rogueScore = none := hscore
      rw [Home.scored, hnone, Option.map_none, ← hnone]
    rw [hsame]
    exact s.handled_refl t h
  | some n =>
    have hset := s.handled_modHome t h (fun x =>
      { x with record := { x.record with rogueScore := some (f n) } })
    have hscored : { s.home t h with record := { (s.home t h).record with rogueScore := some (f n) } }
        = (s.home t h).scored f := by
      have hsome : (s.home t h).record.rogueScore = some n := hscore
      rw [Home.scored, hsome, Option.map_some]
    rw [hscored] at hset
    dsimp only
    by_cases hcross : n < s.cfg.scoreLimit ∧ s.cfg.scoreLimit ≤ f n
    · rw [if_pos hcross, Option.any_some, decide_eq_true hcross.1, decide_eq_true hcross.2,
        if_pos (by decide)]
      have hraised := hset.trans (State.handled_raise _ t h
        (.scoreQuenchRequest t h (s.record t h).generation))
      obtain ⟨hhome, htx, hrest⟩ := hset
      rw [hhome, htx] at hraised
      exact hraised
    · have hnot : ¬ (Option.any (fun n => decide (n < s.cfg.scoreLimit)
          && decide (s.cfg.scoreLimit ≤ f n)) (some n)) = true := by
        rw [Option.any_some, ← Bool.decide_and]
        exact fun h => hcross (of_decide_eq_true h)
      rw [if_neg hcross, if_neg hnot]
      exact hset

end blocks

/-! ### ARRIVAL (R18, R22) -/

section arrival
variable {s : State} {t : TreeId} {light : BurstLight} {w : Window} {g : Grant}

theorem exec_arrival_none (hup : s.inReset = none)
    (hnone : ∀ w, (s.tree t).rx.window = some w → w.plan.grants[w.settled]? = none) :
    exec (.arrival t light) s = .next s := by
  cases hopen : (s.tree t).rx.window with
  | none => simp only [exec, execArrival, State.whileUp_up hup, hopen]
  | some w =>
    have hgrant : w.nextGrant = none := hnone w hopen
    simp only [exec, execArrival, State.whileUp_up hup, hopen, hgrant]

/-- The arrival record of the next grant and the window after it. -/
theorem exec_arrival {outcome : BurstOutcome} {span : Option Int} (hup : s.inReset = none)
    (hopen : (s.tree t).rx.window = some w) (hgrant : w.plan.grants[w.settled]? = some g)
    (hout : settleGrant s.cfg.litLevel w.plan g (w.headers ++ light.headers) light = (outcome, span)) :
    exec (.arrival t light) s = .next ((s.readTo t { w with
        headers := w.headers ++ light.headers, settled := w.settled + 1
        testSpans := w.testSpans ++ span.toList }).takeArrival
      { round := w.plan.round, tree := t, home := g.home, generation := g.generation
        outcome := outcome } light.payload) := by
  have hnext : w.nextGrant = some g := hgrant
  simp only [exec, execArrival, State.whileUp_up hup, hopen, hnext, Window.settle, hout]
  rfl

theorem State.takeArrival_stale {a : ArrivalRecord} (payload : List Byte)
    (hstale : (s.record a.tree a.home).state = .free
      ∨ (s.record a.tree a.home).generation ≠ a.generation) :
    s.takeArrival a payload = s.discardUp a.tree := by
  refine if_pos ?_
  rw [State.staleArrival, Bool.or_eq_true, decide_eq_true_iff, decide_eq_true_iff]
  exact hstale

theorem State.takeArrival_fresh {a : ArrivalRecord} (payload : List Byte)
    (hheld : (s.record a.tree a.home).state ≠ .free)
    (hgen : (s.record a.tree a.home).generation = a.generation) :
    s.takeArrival a payload = (((((((s.uplink a payload).keepLevel a).keepSilence a).retrim
      a).keepReport a).scoreArrival a).meterArrival a) := by
  refine if_neg ?_
  rw [State.staleArrival, Bool.or_eq_true, decide_eq_true_iff, decide_eq_true_iff]
  exact fun h => h.elim hheld fun hne => hne hgen

/-- The payload of a header-good burst goes up (R22). -/
def State.forwarded (s : State) (t : TreeId) (h : HomeIdx) (payload : List Byte) (used : Nat) : State :=
  if used = 0 then s else s.emit (.upstream t h (payload.take used))

theorem State.forwarded_eq (s : State) (t : TreeId) (h : HomeIdx) (payload : List Byte) (used : Nat) :
    s.forwarded t h payload used = { s with
      outputs := if used = 0 then s.outputs else .upstream t h (payload.take used) :: s.outputs } := by
  unfold State.forwarded
  split <;> rfl

end arrival

/-- A header-good arrival leaves the state of a home and its trim as they were before it. -/
theorem Home.trims_heard (x : Home) (level : Option Int) (timing : Timing) :
    (x.leveled level).heard.trims timing = x.trims timing := by
  unfold Home.heard
  split <;> rfl

theorem State.crossing_congr {s u : State} {t : TreeId} {h : HomeIdx} {n : Nat} (f : Nat → Nat)
    (hcfg : u.cfg = s.cfg) (hscore : (u.record t h).rogueScore = (s.record t h).rogueScore)
    (hgen : (u.record t h).generation = n) : u.crossing t h f =
      if (s.record t h).rogueScore.any
        (fun n => decide (n < s.cfg.scoreLimit) && decide (s.cfg.scoreLimit ≤ f n))
      then [.scoreQuenchRequest t h n] else [] := by
  rw [State.crossing, hcfg, hscore, hgen]

/-- Settles O42: a stale arrival stops at the Uplink Port; a header-good one goes from block to block. -/
theorem arrivalIsTakenOrDiscarded : Obligations.ArrivalIsTakenOrDiscarded := by
  refine ⟨fun s t light hup => ?_, fun s t light w g timing overrun offset level backlog used span hup
    hopen hgrant => ?_⟩
  · intro c
    refine ⟨fun hnone => exec_arrival_none hup fun w hw => absurd (hnone.symm.trans hw) (by simp),
      fun w hopen => ⟨fun hsettled => exec_arrival_none hup fun w' hw' => ?_, fun g hgrant hstale => ?_⟩⟩
    · obtain rfl := Option.some.inj (hopen.symm.trans hw')
      exact List.getElem?_eq_none hsettled
    · intro found out
      rw [show exec c s = _ from exec_arrival hup hopen hgrant (Prod.eta _).symm]
      refine congrArg _ (State.takeArrival_stale _ ?_)
      rw [State.record_readTo]
      exact hstale
  · intro h r found hheld hgen hout s' active trims eqd scored
    let a : ArrivalRecord :=
      { round := w.plan.round, tree := t, home := h, generation := g.generation
        outcome := .good timing overrun offset level backlog used }
    let up := s'.forwarded t h light.payload used
    let s1 := up.keepLevel a
    let s2 := s1.keepSilence a
    let s3 := s2.retrim a
    let s4 := s3.keepReport a
    have hscored : (if timing = .misplaced ∨ overrun = true then scoreUp else fun n => n - 1) = scored := by
      funext n
      simp only [scored]
      split <;> rfl
    have h1 : up.handled s1 t h _ _ _ := up.keepLevel_handled a
    have h2 : s1.handled s2 t h _ _ _ := s1.keepSilence_good a rfl
    have h3 : s2.handled s3 t h _ _ _ := s2.retrim_good (a := a) rfl
    have h4 : s3.handled s4 t h _ _ _ := s3.keepReport_good (a := a) rfl
    have h5 : s4.handled (s4.setScore t h scored) t h _ _ _ := s4.setScore_handled t h scored
    obtain ⟨-, -, hlight, hmeter, hindex, honly, hbus, houtputs, hflight⟩ :=
      (((h1.trans h2).trans h3).trans h4).trans h5
    have hforwarded : up = { s' with
        outputs := if used = 0 then s.outputs else .upstream t h (light.payload.take used) :: s.outputs } :=
      s'.forwarded_eq t h _ used
    have hupTree : up.tree t = s'.tree t := by rw [hforwarded]; rfl
    have hs'Tree : s'.tree t = { s.tree t with rx := (s'.tree t).rx } := by rw [State.tree_readTo_self]
    have hupHome : up.home t h = s.home t h := by rw [State.home, hupTree]; exact s.home_readTo t _ t h
    have hupTx : (up.tree t).tx = (s.tree t).tx := by rw [hupTree, hs'Tree]
    have hupLight : (up.tree t).light = (s.tree t).light := by rw [hupTree, hs'Tree]
    have hs2 : s2.home t h = ((s.home t h).leveled (some level)).heard := by rw [h2.1, h1.1, hupHome]; rfl
    have hs4 : s4.home t h = (if (s.home t h).trims timing
        then (((s.home t h).leveled (some level)).heard).trimmed offset
        else ((s.home t h).leveled (some level)).heard).reported backlog := by
      rw [h4.1, h3.1, hs2, Home.trims_heard]
    refine ⟨s4.setScore t h scored, ?_, ?_, ?_, ?_, ?_, ?_, ?_, ?_, ?_, ?_⟩
    · rw [exec_arrival hup hopen hgrant hout, State.takeArrival_fresh _
        (by rw [State.record_readTo]; exact hheld) (by rw [State.record_readTo]; exact hgen), ← hscored]
      rfl
    · rw [h5.1, hs4]
      have htrims : (s.home t h).trims timing = trims := rfl
      rw [htrims]
      by_cases hactive : (s.home t h).record.state = .active
      · have hact : active = true := decide_eq_true hactive
        rw [hact]
        cases trims <;> simp [Home.scored, Home.reported, Home.trimmed, Home.heard, Home.leveled, hactive,
          r, State.record, trimmedDelay, Config.referenceTrip, eqd]
      · have hact : active = false := decide_eq_false hactive
        have hnone : trims = false := by simp [trims, hact]
        rw [hact, hnone]
        simp [Home.scored, Home.reported, Home.heard, Home.leveled, hactive, r, State.record]
    · have hserial : (s2.record t h).serial = r.serial := by
        rw [State.record, hs2, Home.heard]
        split <;> rfl
      have heqd : (s2.record t h).eqd = r.eqd := by
        rw [State.record, hs2, Home.heard]
        split <;> rfl
      rw [h5.2.1, h4.2.1, h3.2.1, hserial, heqd, hs2, Home.trims_heard, h2.2.1, h1.2.1, hupTx]
      rfl
    · exact hlight.trans hupLight
    · exact hmeter.trans (by rw [hforwarded]; rfl)
    · exact hindex.trans (by rw [hforwarded]; rfl)
    · have hchip : s'.sameChip up := by rw [hforwarded]; exact s'.sameChip_refl
      exact (State.onlyHome_of_trees t h hchip (by rw [hforwarded])).trans honly
    · exact hbus.trans (by rw [hforwarded]; rfl)
    · exact houtputs.trans (by rw [hforwarded])
    · have hscore : (s4.record t h).rogueScore = r.rogueScore := by
        rw [State.record, hs4]
        unfold Home.reported Home.heard
        split_ifs <;> rfl
      have hgeneration : (s4.record t h).generation = g.generation := by
        rw [State.record, hs4, ← hgen]
        unfold Home.reported Home.heard
        split_ifs <;> rfl
      have hcfg : s4.cfg = s.cfg := by
        have hsettings : s4.bus = s.bus :=
          (((h1.trans h2).trans h3).trans h4).2.2.2.2.2.2.1.trans (by rw [hforwarded]; rfl)
        rw [State.cfg, hsettings]
        rfl
      rw [hflight, State.crossing_congr (s := s) scored hcfg hscore hgeneration, hforwarded]
      rfl

/-! ### SILENT, GARBLED and WRONG-HOME (R32, R33, R124) -/

/-- The level and the silence of an arrival that is not header-good. -/
theorem State.handled_bad (s : State) {a : ArrivalRecord} (hbad : a.outcome.isGood = false) :
    s.handled ((s.keepLevel a).keepSilence a) a.tree a.home
      (((s.home a.tree a.home).leveled a.outcome.level?).silent s.cfg.silentLimit s.cfg.lostHold)
      (s.tree a.tree).tx [] := by
  have hlevel := s.keepLevel_handled a
  have hsilence := (s.keepLevel a).keepSilence_bad a hbad
  have hcfg : (s.keepLevel a).cfg = s.cfg := by
    rw [State.cfg, hlevel.2.2.2.2.2.2.1]
    rfl
  have hall := hlevel.trans hsilence
  rw [hlevel.1, hlevel.2.1, hcfg] at hall
  exact hall

/-- The home that an arrival without a good header leaves, by its state and silence. -/
theorem Home.silent_leveled (x : Home) (level : Option Int) (limit hold : Nat) :
    (x.record.state ≠ .active → (x.leveled level).silent limit hold = x.leveled level)
    ∧ (x.record.state = .active → x.record.silence.getD 0 + 1 < limit →
        (x.leveled level).silent limit hold = { x with record := { (x.leveled level).record with
          silence := some (x.record.silence.getD 0 + 1) } })
    ∧ (x.record.state = .active → limit ≤ x.record.silence.getD 0 + 1 →
        (x.leveled level).silent limit hold =
          { record := (x.leveled level).record.standing .lost (some (max hold 1)), reportSlot := none
            trimHold := none, usage := x.usage }) :=
  ⟨fun hidle => if_pos hidle,
    fun hactive hless => (if_neg (not_not.mpr hactive)).trans (if_pos hless),
    fun hactive hmore => (if_neg (not_not.mpr hactive)).trans (if_neg (Nat.not_lt.mpr hmore))⟩

/-- A WRONG-HOME outcome names another index than the granted one (R15). -/
theorem settleGrant_named {litLevel : Int} {p : Plan} {g : Grant} {found : List FoundHeader}
    {light : BurstLight} {named : Nat} {level : Int} {span : Option Int}
    (hout : settleGrant litLevel p g found light = (.wrongHome named level, span)) :
    named ≠ g.home.val := by
  cases htaken : p.headerTaken g found with
  | none =>
    rw [settleGrant_none htaken] at hout
    split at hout <;> cases hout
  | some x =>
    obtain ⟨f, b⟩ := x
    by_cases hown : b.index = g.home.val
    · rw [settleGrant_good htaken hown] at hout
      cases hout
    · rw [settleGrant_wrongHome htaken hown] at hout
      cases hout
      exact hown

theorem State.discardUp_home (s : State) (t : TreeId) (v : TreeId) (k : HomeIdx) :
    (s.discardUp t).home v k = s.home v k := by
  unfold State.discardUp State.home
  by_cases hv : v = t
  · subst hv
    rw [State.tree_modTree_self]
    rfl
  · rw [State.tree_modTree_other _ _ _ _ hv]

/-- Of tree `t` only homes differ, and all else stands but the requests in flight. -/
def State.homesOnly (s u : State) (t : TreeId) : Prop :=
  s.sameChip u ∧ (∀ v, v ≠ t → u.tree v = s.tree v) ∧ (s.tree t).sameLine (u.tree t)
    ∧ (u.tree t).tx = (s.tree t).tx ∧ (u.tree t).light = (s.tree t).light ∧ u.meter = s.meter
    ∧ u.serialIndex = s.serialIndex ∧ u.bus = s.bus ∧ u.outputs = s.outputs

theorem State.handled.homesOnly {s u : State} {t : TreeId} {h : HomeIdx} {x : Home} {sent : List Instr}
    (hs : s.handled u t h x (s.tree t).tx sent) : s.homesOnly u t := by
  obtain ⟨-, htx, hlight, hmeter, hindex, ⟨hchip, hothers, hline, -⟩, hbus, houtputs, -⟩ := hs
  exact ⟨hchip, hothers, hline, htx, hlight, hmeter, hindex, hbus, houtputs⟩

theorem State.homesOnly.trans {a b c : State} {t : TreeId} (p : a.homesOnly b t) (q : b.homesOnly c t) :
    a.homesOnly c t := by
  obtain ⟨pchip, pothers, pline, ptx, plight, pmeter, pindex, pbus, pout⟩ := p
  obtain ⟨qchip, qothers, qline, qtx, qlight, qmeter, qindex, qbus, qout⟩ := q
  exact ⟨pchip.trans qchip, fun v hv => (qothers v hv).trans (pothers v hv), pline.trans qline,
    qtx.trans ptx, qlight.trans plight, qmeter.trans pmeter, qindex.trans pindex, qbus.trans pbus,
    qout.trans pout⟩

theorem State.homesOnly_refl (s : State) (t : TreeId) : s.homesOnly s t :=
  ⟨s.sameChip_refl, fun _ _ => rfl, (s.tree t).sameLine_refl, rfl, rfl, rfl, rfl, rfl, rfl⟩

/-- The home that a WRONG-HOME header names is scored, if the index names one (R124). -/
def State.scoreNamed (s : State) (t : TreeId) (named : Nat) : State :=
  if hn : named < 128 then s.setScore t ⟨named, hn⟩ scoreUp else s

theorem State.scoreNamed_spec (s : State) (t : TreeId) (named : Nat) :
    (∀ k : HomeIdx, (s.scoreNamed t named).home t k =
      if k.val = named then (s.home t k).scored scoreUp else s.home t k)
    ∧ (∀ k : HomeIdx, k.val = named →
        (s.scoreNamed t named).inFlight = s.inFlight ++ s.crossing t k scoreUp)
    ∧ (127 < named → (s.scoreNamed t named).inFlight = s.inFlight)
    ∧ s.homesOnly (s.scoreNamed t named) t := by
  unfold State.scoreNamed
  by_cases hn : named < 128
  · rw [dif_pos hn]
    have hscore := s.setScore_handled t ⟨named, hn⟩ scoreUp
    have hframe := hscore.homesOnly
    obtain ⟨hhome, -, -, -, -, ⟨-, -, -, hothers⟩, -, -, hflight⟩ := hscore
    refine ⟨fun k => ?_, fun k hk => ?_, fun hbig => absurd hn (by omega), hframe⟩
    · split
      · next hk =>
        obtain rfl : k = ⟨named, hn⟩ := Fin.ext hk
        exact hhome
      · next hk => exact hothers k fun heq => hk (congrArg Fin.val heq)
    · obtain rfl : k = ⟨named, hn⟩ := Fin.ext hk
      exact hflight
  · rw [dif_neg hn]
    refine ⟨fun k => ?_, fun k hk => absurd k.isLt (by omega), fun _ => rfl, s.homesOnly_refl t⟩
    exact (if_neg fun hk : k.val = named => hn (hk ▸ k.isLt)).symm

/-- Settles O43: without a good header only the level and the silence move; a WRONG-HOME header also
counts a discard and scores the home it names. -/
theorem badArrivalsCountSilenceAndScores : Obligations.BadArrivalsCountSilenceAndScores := by
  refine ⟨fun s t light w g level hup hopen hgrant => ?_,
    fun s t light w g named level hup hopen hgrant => ?_⟩
  · intro h r found hheld hgen hout s' silence kept
    let a : ArrivalRecord :=
      { round := w.plan.round, tree := t, home := h, generation := g.generation
        outcome := match level with | some n => .garbled n | none => .silent }
    let u := (s'.keepLevel a).keepSilence a
    have hlevel : a.outcome.level? = level := by
      simp only [a]
      cases level <;> rfl
    have hbad : a.outcome.isGood = false := by
      simp only [a]
      cases level <;> rfl
    have hwindow : s.readTo t { w with
        headers := found, settled := w.settled + 1, testSpans := w.testSpans ++ (none : Option Int).toList }
          = s' := by
      rw [Option.toList_none, List.append_nil]
    have hexec : exec (.arrival t light) s = .next u := by
      rw [exec_arrival hup hopen hgrant hout, hwindow, State.takeArrival_fresh _
        (by rw [State.record_readTo]; exact hheld) (by rw [State.record_readTo]; exact hgen)]
      cases level <;> rfl
    have hhandled := s'.handled_bad hbad
    rw [hlevel, show s'.home a.tree a.home = s.home t h from s.home_readTo t _ t h] at hhandled
    obtain ⟨hhome, htx, hlight, hmeter, hindex, honly, htraffic⟩ := hhandled
    obtain ⟨hidle, hless, hmore⟩ := (s.home t h).silent_leveled level s'.cfg.silentLimit s'.cfg.lostHold
    have hsame : s.sameTraffic u :=
      ⟨htraffic.1, htraffic.2.2.trans (List.append_nil _), htraffic.2.1⟩
    have hs'Home : s'.home t h = s.home t h := s.home_readTo t _ t h
    have hs'Tx : (s'.tree t).tx = (s.tree t).tx := by rw [State.tree_readTo_self]
    have hs'Light : (s'.tree t).light = (s.tree t).light := by rw [State.tree_readTo_self]
    refine ⟨fun hstate => ⟨u, hexec, ⟨?_, hmeter, htx, hlight, hindex, honly⟩, hsame⟩,
      fun hstate hfew => ⟨u, hexec, ⟨?_, hmeter, htx, hlight, hindex, honly⟩, hsame⟩,
      fun hstate hmany => ⟨u, hexec, ?_, hmeter, htx.trans hs'Tx, hlight.trans hs'Light, hindex, honly,
        hsame⟩⟩
    · rw [hs'Home]
      exact hhome.trans (hidle hstate)
    · rw [hs'Home]
      exact hhome.trans (hless hstate hfew)
    · exact hhome.trans (hmore hstate hmany)
  · intro h r found hheld hgen hout s' silence kept scored
    let a : ArrivalRecord :=
      { round := w.plan.round, tree := t, home := h, generation := g.generation
        outcome := .wrongHome named level }
    let d := s'.discardUp t
    let v := (d.keepLevel a).keepSilence a
    have hnamed : named ≠ h.val := settleGrant_named hout
    have hwindow : s.readTo t { w with
        headers := found, settled := w.settled + 1, testSpans := w.testSpans ++ (none : Option Int).toList }
          = s' := by
      rw [Option.toList_none, List.append_nil]
    have hscored : scored = scoreUp := rfl
    have hexec : exec (.arrival t light) s = .next (v.scoreNamed t named) := by
      rw [exec_arrival hup hopen hgrant hout, hwindow, State.takeArrival_fresh _
        (by rw [State.record_readTo]; exact hheld) (by rw [State.record_readTo]; exact hgen)]
      rfl
    have hdHome : ∀ x k, d.home x k = s.home x k := fun x k =>
      (s'.discardUp_home t x k).trans (s.home_readTo t _ x k)
    have hhandled := d.handled_bad (a := a) rfl
    rw [hdHome] at hhandled
    obtain ⟨hidle, hless, hmore⟩ := (s.home t h).silent_leveled (some level) s.cfg.silentLimit s.cfg.lostHold
    have hvHome : v.home t h = if r.state ≠ .active then { s.home t h with record := kept }
        else if silence < s.cfg.silentLimit then
          { s.home t h with record := { kept with silence := some silence } }
        else { record := kept.standing .lost (some (max s.cfg.lostHold 1))
               reportSlot := none, trimHold := none, usage := (s.home t h).usage } := by
      refine hhandled.1.trans ?_
      split_ifs with hstate hfew
      · exact hidle hstate
      · exact hless (not_not.mp hstate) hfew
      · exact hmore (not_not.mp hstate) (Nat.not_lt.mp hfew)
    have hdTree : d.tree t = { s'.tree t with
        upDiscards := min ((s.tree t).upDiscards + 1) 4294967295 } := by
      rw [show d = s'.discardUp t from rfl, State.discardUp, State.tree_modTree_self,
        State.tree_readTo_self]
      rfl
    obtain ⟨hhomes, hcrossing, hfar, hscore⟩ := v.scoreNamed_spec t named
    obtain ⟨hchip, hothers, hline, htx, hlight, hmeter, hindex, hbus, houtputs⟩ :=
      hhandled.homesOnly.trans hscore
    obtain ⟨-, -, -, -, -, ⟨-, -, -, hothersHomes⟩, hvBus, -, hvFlight⟩ := hhandled
    have hvOther : ∀ k : HomeIdx, k ≠ h → v.home t k = s.home t k := fun k hk =>
      (hothersHomes k hk).trans (hdHome t k)
    refine ⟨hnamed, v.scoreNamed t named, hexec, ?_, fun k hk => ?_, ?_, fun x hx => ?_, ?_,
      fun k hk => ?_, fun hbig => ?_⟩
    · rw [hhomes, if_neg (Ne.symm hnamed), hvHome]
    · rw [hhomes, hvOther k hk]
      rfl
    · have htree := Tree.eq_of_sameLine hline htx hlight
      rw [hdTree] at htree
      exact htree
    · rw [hothers x hx, show d = s'.discardUp t from rfl, State.discardUp,
        State.tree_modTree_other _ _ _ _ hx, State.tree_readTo_other _ _ _ _ hx]
    · exact State.eq_of_sameChip hchip hbus hmeter hindex houtputs
    · have hkh : k ≠ h := fun heq => hnamed (hk ▸ congrArg Fin.val heq)
      have hcfg : v.cfg = s.cfg := by rw [State.cfg, hvBus]; rfl
      rw [hcrossing k hk, hvFlight, State.crossing_congr (s := s) scoreUp hcfg
        (by rw [State.record, hvOther k hkh]; rfl) (by rw [State.record, hvOther k hkh]),
        List.append_nil]
      rfl
    · rw [hfar hbig, hvFlight, List.append_nil]
      rfl

end Sys2Proof.Machine
end

section
/-! SUPPORT. RESTART (section 10.5): record by record, then readout by readout; the statement O33. -/

namespace Sys2Proof.Machine

/-! ### The hand-offs of a restarted tree (R43, R157) -/

/-- The Meter `m` after the hand-off that record `h` of `s` owes. -/
def State.handOffOnto (s : State) (t : TreeId) (reason : DepartedReason) (m : Meter) (h : HomeIdx) :
    Meter :=
  if isTiered (s.record t h).state then
    (s.home t h).usage.elim m (fun x => m.append (s.departedOf t h reason x))
  else m

theorem State.meterAfterHandOff_eq (s : State) (t : TreeId) (h : HomeIdx) (reason : DepartedReason) :
    s.meterAfterHandOff t h reason = s.handOffOnto t reason s.meter h := by
  unfold State.meterAfterHandOff State.handOffOnto
  cases (s.home t h).usage <;> rfl

theorem State.meterAfterHandOffs_eq (s : State) (t : TreeId) (reason : DepartedReason) :
    s.meterAfterHandOffs t reason = allHomes.foldl (s.handOffOnto t reason) s.meter := by
  unfold State.meterAfterHandOffs
  refine congrArg (fun f => allHomes.foldl f s.meter) (funext fun m => funext fun h => ?_)
  unfold State.handOffOnto
  cases (s.home t h).usage <;> rfl

theorem State.handOffOnto_congr {s u : State} {t : TreeId} {h : HomeIdx} (reason : DepartedReason)
    (m : Meter) (hhome : u.home t h = s.home t h) :
    u.handOffOnto t reason m h = s.handOffOnto t reason m h := by
  simp only [State.handOffOnto, State.departedOf, State.record, hhome]
  exact if_congr Iff.rfl rfl rfl

@[simp] theorem Meter.append_readouts (m : Meter) (d : DepartedRecord) :
    (m.append d).readouts = m.readouts := by
  unfold Meter.append
  split_ifs <;> rfl

theorem State.handOffOnto_readouts (s : State) (t : TreeId) (reason : DepartedReason) (m : Meter)
    (h : HomeIdx) : (s.handOffOnto t reason m h).readouts = m.readouts := by
  unfold State.handOffOnto
  split
  · cases (s.home t h).usage with
    | none => rfl
    | some x => exact Meter.append_readouts _ _
  · rfl

/-! ### One record (R43) -/

section record
variable (s : State) (t : TreeId) (h : HomeIdx)

/-- A home of a restarted tree, apart from its test_dark flag. -/
def State.restartedHome (s : State) (t : TreeId) (h : HomeIdx) (dark : Option Bool) : Home :=
  if (s.record t h).state = .free then
    { s.home t h with record := { s.record t h with testDark := dark } }
  else { record := (s.record t h).emptied dark, reportSlot := none, trimHold := none
         usage := s.usageAfterHandOff t h }

theorem State.restartRecord_home :
    ∃ dark, (State.restartRecord t s h).home t h = s.restartedHome t h dark := by
  unfold State.restartRecord State.restartedHome
  split
  · exact ⟨(s.record t h).testDark, rfl⟩
  · refine ⟨darkAfterNotice (s.tree t).light .free .restart (s.record t h).testDark, ?_⟩
    simp [State.changeState_home, State.handOffTiered_home, Home.changed, State.record,
      HomeRecord.noticed, HomeRecord.enter, HomeRecord.emptied, HomeRecord.reset, keepIf, isTiered,
      State.handOffTiered_tree, relapsesAfter]

theorem State.restartRecord_meter : (State.restartRecord t s h).meter =
    s.handOffOnto t .restart s.meter h := by
  unfold State.restartRecord
  split
  · next hfree => rw [State.handOffOnto, hfree]; rfl
  · rw [State.changeState_meter, State.handOffTiered_meter, State.meterAfterHandOff_eq]

theorem State.restartRecord_tx : ((State.restartRecord t s h).tree t).tx = (s.tree t).tx := by
  unfold State.restartRecord
  split
  · rfl
  · rw [State.changeState_tx, State.handOffTiered_tree]
    rfl

theorem State.restartRecord_onlyHome : s.onlyHome (State.restartRecord t s h) t h := by
  unfold State.restartRecord
  split
  · exact s.onlyHome_refl t h
  · exact (s.handOffTiered_onlyHome t h _).trans (State.changeState_onlyHome _ t h _ _ _)

theorem State.restartRecord_sameTraffic : s.sameTraffic (State.restartRecord t s h) := by
  unfold State.restartRecord
  split
  · exact s.sameTraffic_refl
  · exact (s.handOffTiered_sameTraffic t h _).trans
      (State.changeState_sameTraffic _ t h _ _ _ (by decide))

theorem State.restartRecord_serialIndex : (State.restartRecord t s h).serialIndex =
    s.serialIndex.filter (fun e => !(decide (e.tree = t) && decide (e.home = h)
      && decide ((s.record t h).state ≠ .free))) := by
  unfold State.restartRecord
  split
  · next hfree => simp [hfree]
  · next hheld =>
    rw [State.changeState_serialIndex, if_pos rfl, State.unindex, State.handOffTiered_serialIndex]
    simp [hheld]

end record

/-! ### All records of the tree -/

theorem State.restartedHome_congr {s u : State} {t : TreeId} {h : HomeIdx} (dark : Option Bool)
    (hhome : u.home t h = s.home t h) : u.restartedHome t h dark = s.restartedHome t h dark := by
  have hrecord : u.record t h = s.record t h := congrArg Home.record hhome
  unfold State.restartedHome State.usageAfterHandOff
  rw [hrecord, hhome]

/-- Whatever test_dark flag a restarted home keeps is cleared with the tree's watch. -/
theorem State.restartedHome_dark (s : State) (t : TreeId) (h : HomeIdx) (dark new : Option Bool) :
    { s.restartedHome t h dark with record := { (s.restartedHome t h dark).record with testDark := new } }
      = s.restartedHome t h new := by
  unfold State.restartedHome
  split <;> rfl

/-- The records of tree `t` in `l` have been freed, in order, with their hand-offs. -/
structure State.emptiedTo (s u : State) (t : TreeId) (l : List HomeIdx) : Prop where
  inside : ∀ h ∈ l, ∃ dark, u.home t h = s.restartedHome t h dark
  outside : ∀ h, h ∉ l → u.home t h = s.home t h
  meter : u.meter = l.foldl (s.handOffOnto t .restart) s.meter
  tx : (u.tree t).tx = (s.tree t).tx
  index : u.serialIndex = s.serialIndex.filter (fun e => !(decide (e.tree = t) && decide (e.home ∈ l)
    && decide ((s.record t e.home).state ≠ .free)))
  line : (s.tree t).sameLine (u.tree t)
  others : ∀ v, v ≠ t → u.tree v = s.tree v
  chip : s.sameChip u
  traffic : s.sameTraffic u

theorem State.emptiedTo_foldl (t : TreeId) (l : List HomeIdx) (hl : l.Nodup) (s : State) :
    s.emptiedTo (l.foldl (State.restartRecord t) s) t l := by
  induction l generalizing s with
  | nil =>
    exact ⟨fun h hh => absurd hh List.not_mem_nil, fun _ _ => rfl, rfl, rfl, by simp,
      (s.tree t).sameLine_refl, fun _ _ => rfl, s.sameChip_refl, s.sameTraffic_refl⟩
  | cons h l ih =>
    obtain ⟨hnew, hl⟩ := List.nodup_cons.mp hl
    obtain ⟨hchip, hothers, hline, hhomes⟩ := s.restartRecord_onlyHome t h
    obtain ⟨inside, outside, meter, tx, index, line, others, chip, traffic⟩ :=
      ih hl (State.restartRecord t s h)
    rw [List.foldl_cons]
    refine ⟨fun k hk => ?_, fun k hk => ?_, ?_, tx.trans (s.restartRecord_tx t h), ?_, hline.trans line,
      fun v hv => (others v hv).trans (hothers v hv), hchip.trans chip,
      (s.restartRecord_sameTraffic t h).trans traffic⟩
    · by_cases hkh : k = h
      · subst hkh
        rw [outside k hnew]
        exact s.restartRecord_home t k
      · have hkl : k ∈ l := (List.mem_cons.mp hk).resolve_left hkh
        obtain ⟨dark, hdark⟩ := inside k hkl
        exact ⟨dark, hdark.trans (State.restartedHome_congr dark (hhomes k hkh))⟩
    · rw [outside k fun hkl => hk (List.mem_cons_of_mem _ hkl),
        hhomes k fun hkh => hk (hkh ▸ List.mem_cons_self)]
    · rw [meter, List.foldl_cons, s.restartRecord_meter t h]
      refine List.foldl_ext _ _ _ fun m k hk => State.handOffOnto_congr _ m (hhomes k ?_)
      exact fun hkh => hnew (hkh ▸ hk)
    · rw [index, s.restartRecord_serialIndex, List.filter_filter]
      refine List.filter_congr fun e _ => ?_
      by_cases hkh : e.home = h
      · subst hkh
        simp [hnew]
      · have hsame : (State.restartRecord t s h).record t e.home = s.record t e.home :=
          congrArg Home.record (hhomes e.home hkh)
        simp [hkh, hsame]

/-! ### The readouts of the tree (R170) -/

/-- A record of a tree without homes is kept as MERGED (R169). -/
theorem State.mergeRecord_empty {s : State} {t : TreeId} (hfree : ∀ h, (s.record t h).state = .free)
    {r : SnapshotRecord} (hr : snapshotTree r = t) : s.mergeRecord r = s.modMeter (·.keepMerged r) := by
  cases r with
  | taken serial u h generation interval counters =>
    obtain rfl : u = t := hr
    exact State.mergeRecord_gone (.inr (by rw [hfree h]; rfl))
  | heldElsewhere => rfl
  | empty => rfl

theorem State.mergeRecord_foldl {t : TreeId} (l : List SnapshotRecord) (hl : ∀ r ∈ l, snapshotTree r = t)
    (s : State) (hfree : ∀ h, (s.record t h).state = .free) :
    l.foldl State.mergeRecord s = s.modMeter (fun m => l.foldl Meter.keepMerged m) := by
  induction l generalizing s with
  | nil => rfl
  | cons r l ih =>
    rw [List.foldl_cons, State.mergeRecord_empty hfree (hl r List.mem_cons_self)]
    exact ih (fun q hq => hl q (List.mem_cons_of_mem _ hq)) (s.modMeter (·.keepMerged r)) hfree

/-- On a tree without homes, what a restart does with a readout is the Meter's own. -/
theorem State.restartReadout_eq {s : State} {t : TreeId} (hfree : ∀ h, (s.record t h).state = .free)
    {e : Readout} (he : ∀ u first, e.range = .usage u first → ∀ r ∈ e.snapshot, snapshotTree r = u) :
    State.restartReadout t s e = s.modMeter (fun m => m.endReadout t e) := by
  unfold State.restartReadout Meter.endReadout
  cases hrange : e.range with
  | departed => cases e.state <;> rfl
  | usage u first =>
    by_cases hu : u = t
    · subst hu
      cases hstate : e.state with
      | preparing => simp
      | delivered => simp; rfl
      | ready =>
        simp only [if_true]
        rw [State.mergeBack_eq]
        simp only [hrange]
        rw [State.mergeRecord_foldl e.snapshot (he u first hrange) s hfree]
        rfl
    · cases e.state <;> simp [hu] <;> rfl

theorem State.restartReadout_foldl {t : TreeId} (l : List Readout)
    (hl : ∀ e ∈ l, ∀ u first, e.range = .usage u first → ∀ r ∈ e.snapshot, snapshotTree r = u)
    (s : State) (hfree : ∀ h, (s.record t h).state = .free) :
    l.foldl (State.restartReadout t) s = s.modMeter (fun m => l.foldl (Meter.endReadout t) m) := by
  induction l generalizing s with
  | nil => rfl
  | cons e l ih =>
    rw [List.foldl_cons, State.restartReadout_eq hfree (hl e List.mem_cons_self)]
    exact ih (fun q hq => hl q (List.mem_cons_of_mem _ hq)) (s.modMeter (fun m => m.endReadout t e)) hfree

/-! ### The whole restart (R179) -/

theorem Tree.home_restarted (tr : Tree) (h : HomeIdx) : tr.restarted.home h = tr.home h := rfl

theorem allHomes_nodup : allHomes.Nodup := List.nodup_finRange 128

theorem State.handOffOnto_foldl_readouts (s : State) (t : TreeId) (reason : DepartedReason)
    (l : List HomeIdx) (m : Meter) : (l.foldl (s.handOffOnto t reason) m).readouts = m.readouts := by
  induction l generalizing m with
  | nil => rfl
  | cons h l ih => rw [List.foldl_cons, ih, State.handOffOnto_readouts]

section restart
variable (s : State) (t : TreeId)

/-- The tree's records are gone through before its readouts and its own figures; irreducible, so that no
check of a proof runs through the 128 homes. -/
@[irreducible] def State.emptiedTree (s : State) (t : TreeId) : State :=
  allHomes.foldl (State.restartRecord t) s

theorem State.emptiedTree_spec : s.emptiedTo (s.emptiedTree t) t allHomes := by
  unfold State.emptiedTree
  exact State.emptiedTo_foldl t allHomes allHomes_nodup s

theorem State.emptiedTree_free (h : HomeIdx) : ((s.emptiedTree t).record t h).state = .free := by
  obtain ⟨dark, hdark⟩ := (s.emptiedTree_spec t).inside h (mem_allHomes h)
  rw [State.record, hdark, State.restartedHome]
  split
  · next hfree => exact hfree
  · rfl

theorem State.restartReadouts_eq (hstand : s.snapshotsStand) :
    (s.emptiedTree t).restartReadouts t = (s.emptiedTree t).modMeter
      (fun m => s.meter.readouts.foldl (Meter.endReadout t) m) := by
  have hreadouts : (s.emptiedTree t).meter.readouts = s.meter.readouts := by
    rw [(s.emptiedTree_spec t).meter, State.handOffOnto_foldl_readouts]
  rw [State.restartReadouts, hreadouts]
  exact State.restartReadout_foldl _ hstand _ (s.emptiedTree_free t)

variable {s}

theorem State.restartTree_eq (hstand : s.snapshotsStand) : s.restartTree t =
    ((((s.emptiedTree t).modMeter (fun m => s.meter.readouts.foldl (Meter.endReadout t) m)).setTestDark t
      (fun _ => none)).modTree t Tree.restarted) := by
  have hwhole : s.restartTree t =
      (((s.emptiedTree t).restartReadouts t).setTestDark t (fun _ => none)).modTree t Tree.restarted := by
    unfold State.restartTree State.emptiedTree
    with_reducible rfl
  rw [hwhole, s.restartReadouts_eq t hstand]

theorem State.restartTree_home (hstand : s.snapshotsStand) (h : HomeIdx) :
    (s.restartTree t).home t h = s.restartedHome t h none := by
  obtain ⟨dark, hdark⟩ := (s.emptiedTree_spec t).inside h (mem_allHomes h)
  rw [State.restartTree_eq t hstand, State.home, State.tree_modTree_self,
    State.tree_setTestDark_self, State.modMeter_tree]
  rw [Tree.home_restarted, Tree.home_mapHomes, ← s.restartedHome_dark t h dark none, ← hdark]
  rfl

theorem State.restartTree_tree (hstand : s.snapshotsStand) : (s.restartTree t).tree t =
    { (s.emptiedTree t).tree t with
      homes := ((s.restartTree t).tree t).homes
      tx := ((s.emptiedTree t).tree t).tx.restarted
      enrol := { ((s.emptiedTree t).tree t).enrol with countdown := 0 }
      homePointer := 0
      light := .clear 0 } := by
  rw [State.restartTree_eq t hstand, State.tree_modTree_self, State.tree_setTestDark_self,
    State.modMeter_tree]
  rfl

theorem State.restartTree_tree_other (hstand : s.snapshotsStand) (v : TreeId) (hv : v ≠ t) :
    (s.restartTree t).tree v = s.tree v := by
  rw [State.restartTree_eq t hstand, State.tree_modTree_other _ _ _ _ hv,
    State.tree_setTestDark_other _ _ _ _ hv, State.modMeter_tree]
  exact (s.emptiedTree_spec t).others v hv

theorem exec_restart {sender tree : Nat} (hup : s.inReset = none) (hobeys : s.obeys sender = true) :
    exec (.restart sender tree) s = .next (if ht : tree < 4 then
        if s.enabled ⟨tree, ht⟩ then
          ((s.take (.restart sender tree)).restartTree ⟨tree, ht⟩).post .enrolment sender
            (.accepted (.restart tree) none)
        else (s.take (.restart sender tree)).post .enrolment sender
          (.declined (.restart tree) .badRange none)
      else (s.take (.restart sender tree)).post .enrolment sender
        (.declined (.restart tree) .badRange none)) := by
  simp only [exec, execRestart, State.whileUp_up hup, hobeys, if_true]
  rfl

end restart

/-- Settles O33: the restart of a tree is the emptying of its records, the end of its readouts, and the
tree's own figures. -/
theorem restartEmptiesTheTree : Obligations.RestartEmptiesTheTree := by
  intro s sender hup hobeys
  refine ⟨fun t henabled hstand => ?_, fun tree hbad => ?_⟩
  · let s1 := s.take (.restart sender t.val)
    have hstand1 : s1.snapshotsStand := hstand
    have hspec := s1.emptiedTree_spec t
    have htree := State.restartTree_tree t hstand1
    obtain ⟨hrx, henrol, hpointer, hmarks, hup', hdown, hheader, hreceive⟩ := hspec.line
    have hstate := State.restartTree_eq t hstand1
    refine ⟨(s1.restartTree t).post .enrolment sender (.accepted (.restart t.val) none), ?_,
      fun h => ?_, ?_, ?_, ?_, ?_, ?_, ?_, ?_, ?_, ?_, ?_, ?_, fun v hv => ?_, ?_, ?_, ?_⟩
    · rw [exec_restart hup hobeys, dif_pos t.isLt, if_pos henabled]
    · rw [State.post_home, State.restartTree_home t hstand1 h]
      rfl
    · rw [State.post_meter, State.meterAfterHandOffs_eq, hstate]
      exact congrArg (fun m => s.meter.readouts.foldl (Meter.endReadout t) m) hspec.meter
    · rw [State.post_tree, htree]
      exact congrArg Transmitter.restarted hspec.tx
    · rw [State.post_tree, htree]
    · rw [State.post_tree, htree]
      exact congrArg (fun e : EnrolFigures => { e with countdown := 0 }) henrol
    · rw [State.post_tree, htree]
    · rw [State.post_tree, htree]
      exact hrx
    · rw [State.post_tree, htree]
      exact hmarks
    · rw [State.post_tree, htree]
      exact hup'
    · rw [State.post_tree, htree]
      exact hdown
    · rw [State.post_tree, htree]
      exact hheader
    · rw [State.post_tree, htree]
      exact hreceive
    · rw [State.post_tree]
      exact State.restartTree_tree_other t hstand1 v hv
    · rw [State.post_serialIndex, hstate]
      refine hspec.index.trans (List.filter_congr fun e _ => ?_)
      rw [decide_eq_true (mem_allHomes e.home), Bool.and_true]
      rfl
    · refine State.sameChip.trans ?_ (State.post_onlyPosts _ _ _ _).1
      rw [hstate]
      exact hspec.chip
    · refine State.sameTraffic_post ?_ _ _ _
      rw [hstate]
      exact hspec.traffic
  · rw [exec_restart hup hobeys]
    rcases hbad with hbig | ⟨t, rfl, hdisabled⟩
    · rw [dif_neg (by omega)]
    · rw [dif_pos t.isLt, if_neg (by rw [hdisabled]; decide)]

end Sys2Proof.Machine
end

section
/-! SUPPORT. Bits and bytes as numbers, the marker bits of a frame and the fields of a layout; that frames,
burst headers and discovery replies are read back as they were sent. -/

namespace Sys2Proof.Machine

/-! ### Bits and bytes -/

theorem bitsOf_succ (w n : Nat) : bitsOf (w + 1) n = n.testBit w :: bitsOf w n := by
  simp [bitsOf, List.range_succ]

@[simp] theorem bitsOf_length (w n : Nat) : (bitsOf w n).length = w := by simp [bitsOf]

theorem bytesOf_succ (len n : Nat) :
    bytesOf (len + 1) n = BitVec.ofNat 8 (n / 256 ^ len) :: bytesOf len n := by
  simp [bytesOf, List.range_succ]

@[simp] theorem bytesOf_length (len n : Nat) : (bytesOf len n).length = len := by simp [bytesOf]

theorem foldl_natOfBits (bits : List Bool) (a : Nat) :
    bits.foldl (fun n b => 2 * n + b.toNat) a = a * 2 ^ bits.length + natOfBits bits := by
  induction bits generalizing a with
  | nil => simp [natOfBits]
  | cons b bits ih =>
    simp only [natOfBits, List.foldl_cons, List.length_cons]
    rw [ih, ih (2 * 0 + b.toNat)]
    ring

theorem natOfBits_cons (b : Bool) (bits : List Bool) :
    natOfBits (b :: bits) = b.toNat * 2 ^ bits.length + natOfBits bits := by
  simpa [natOfBits] using foldl_natOfBits bits b.toNat

theorem natOfBits_bitsOf (w n : Nat) : natOfBits (bitsOf w n) = n % 2 ^ w := by
  induction w with
  | zero => simp [bitsOf, natOfBits, Nat.mod_one]
  | succ w ih =>
    rw [bitsOf_succ, natOfBits_cons, ih, bitsOf_length, Nat.mod_pow_succ, Nat.testBit_eq_decide_div_mod_eq]
    rcases Nat.mod_two_eq_zero_or_one (n / 2 ^ w) with h | h <;> simp [h, Nat.add_comm]

theorem foldl_natOfBytes (bytes : List Byte) (a : Nat) :
    bytes.foldl (fun n b => 256 * n + b.toNat) a = a * 256 ^ bytes.length + natOfBytes bytes := by
  induction bytes generalizing a with
  | nil => simp [natOfBytes]
  | cons b bytes ih =>
    simp only [natOfBytes, List.foldl_cons, List.length_cons]
    rw [ih, ih (256 * 0 + b.toNat)]
    ring

theorem natOfBytes_cons (b : Byte) (bytes : List Byte) :
    natOfBytes (b :: bytes) = b.toNat * 256 ^ bytes.length + natOfBytes bytes := by
  simpa [natOfBytes] using foldl_natOfBytes bytes b.toNat

@[simp] theorem natOfBytes_bytesOf (len n : Nat) : natOfBytes (bytesOf len n) = n % 256 ^ len := by
  induction len with
  | zero => simp [bytesOf, natOfBytes, Nat.mod_one]
  | succ len ih =>
    rw [bytesOf_succ, natOfBytes_cons, ih, bytesOf_length, Nat.mod_pow_succ, BitVec.toNat_ofNat]
    ring

theorem bytesOfBits_bitsOfBytes (bytes : List Byte) (rest : List Bool) :
    bytesOfBits bytes.length (bitsOfBytes bytes ++ rest) = bytes := by
  induction bytes with
  | nil => rfl
  | cons b bytes ih =>
    have hb : BitVec.ofNat 8 (natOfBits (bitsOf 8 b.toNat)) = b := by
      rw [natOfBits_bitsOf, Nat.mod_eq_of_lt b.isLt, BitVec.ofNat_toNat, BitVec.setWidth_eq]
    have htake : (bitsOfBytes (b :: bytes) ++ rest).take 8 = bitsOf 8 b.toNat := by
      simp [bitsOfBytes]
    have hdrop : (bitsOfBytes (b :: bytes) ++ rest).drop 8 = bitsOfBytes bytes ++ rest := by
      simp [bitsOfBytes]
    rw [List.length_cons, bytesOfBits, htake, hdrop, ih, hb]

@[simp] theorem bitsOfBytes_length (bytes : List Byte) : (bitsOfBytes bytes).length = 8 * bytes.length := by
  induction bytes with
  | nil => rfl
  | cons b bytes ih => simp [bitsOfBytes] at ih ⊢; omega

theorem checkOf_lt (bits : List Bool) : checkOf bits < 65536 := BitVec.isLt _

/-! ### The marker bits -/

/-- Bits sent with their marker bits are read back, and what follows stands on the line. -/
theorem readBits_withMarkers (a b rest : List Bool) {k : Nat} (hk : k < 8) :
    readBits a.length k (withMarkers k (a ++ b) ++ rest)
      = some (a, (k + a.length) % 8, withMarkers ((k + a.length) % 8) b ++ rest) := by
  induction a generalizing k with
  | nil => simp [readBits, Nat.mod_eq_of_lt hk]
  | cons x a ih =>
    by_cases h7 : k = 7
    · have hmod : (7 + (a.length + 1)) % 8 = (0 + a.length) % 8 := by omega
      subst h7
      simp [readBits, withMarkers, ih (k := 0) (by omega), hmod]
    · have hmod : k + (a.length + 1) = k + 1 + a.length := by omega
      simp [readBits, withMarkers, h7, ih (k := k + 1) (by omega), hmod]

/-- Every bit sent is read back from the line, whatever follows. -/
theorem readBits_withMarkers_all (a rest : List Bool) {k : Nat} (hk : k < 8) :
    readBits a.length k (withMarkers k a ++ rest) = some (a, (k + a.length) % 8, rest) := by
  simpa [withMarkers] using readBits_withMarkers a [] rest hk

/-- The class, the sender, the destination, the kind and the length of a frame: its first 28 bits. -/
def frameHead (cls sender dest kind length : Nat) : List Bool :=
  bitsOf 2 cls ++ bitsOf 5 sender ++ bitsOf 5 dest ++ bitsOf 8 kind ++ bitsOf 8 length

@[simp] theorem frameHead_length (cls sender dest kind length : Nat) :
    (frameHead cls sender dest kind length).length = 28 := by simp [frameHead]

theorem frameFields_eq (cls sender dest kind : Nat) (body : List Byte) :
    frameFields cls sender dest kind body
      = frameHead cls sender dest kind body.length ++ bitsOfBytes body := rfl

theorem readFrame_frameBits {cls sender dest kind : Nat} {body : List Byte} (rest : List Bool)
    (hc : cls < 4) (hs : sender < 32) (hd : dest < 32) (hk : kind < 256) (hb : body.length ≤ 240) :
    readFrame (frameBits cls sender dest kind body ++ rest)
      = some { cls := cls, sender := sender, dest := dest, kind := kind, body := body } := by
  let head := frameHead cls sender dest kind body.length
  let check := checkOf (frameFields cls sender dest kind body)
  have hbits : frameBits cls sender dest kind body
      = withMarkers 0 (head ++ (bitsOfBytes body ++ bitsOf 16 check)) := by
    simp [frameBits, frameFields_eq, head, check]
  have hhead := readBits_withMarkers head (bitsOfBytes body ++ bitsOf 16 check) rest (k := 0) (by omega)
  have htail := readBits_withMarkers_all (bitsOfBytes body ++ bitsOf 16 check) rest
    (k := (0 + head.length) % 8) (by omega)
  have hlen : natOfBits (head.drop 20) = body.length := by
    simp [head, frameHead, List.drop_append, List.drop_of_length_le, natOfBits_bitsOf]; omega
  have hread : natOfBits (bitsOf 16 check) = check := by
    rw [natOfBits_bitsOf]; exact Nat.mod_eq_of_lt (checkOf_lt _)
  have hcls : natOfBits (head.take 2) = cls := by
    simp [head, frameHead, natOfBits_bitsOf]; omega
  have hsender : natOfBits ((head.drop 2).take 5) = sender := by
    simp [head, frameHead, natOfBits_bitsOf]; omega
  have hdest : natOfBits ((head.drop 7).take 5) = dest := by
    simp [head, frameHead, List.drop_append, List.drop_of_length_le, natOfBits_bitsOf]; omega
  have hkind : natOfBits ((head.drop 12).take 8) = kind := by
    simp [head, frameHead, List.drop_append, List.drop_of_length_le, natOfBits_bitsOf]; omega
  have h28 : head.length = 28 := frameHead_length _ _ _ _ _
  have hroom : ¬ Config.bodyMax < body.length := Nat.not_lt.mpr hb
  simp only [List.length_append, bitsOfBytes_length, bitsOf_length, h28] at hhead htail
  rw [readFrame, hbits, hhead]
  dsimp only
  rw [hlen, if_neg hroom, htail]
  refine (if_pos ?_).trans ?_
  · rw [List.take_left' (bitsOfBytes_length body), List.drop_left' (bitsOfBytes_length body)]
    exact hread.symm
  · rw [hcls, hsender, hdest, hkind, bytesOfBits_bitsOfBytes]

/-! ### Burst headers and replies -/

theorem readBurstHeader_bytes {index backlog used check : Nat} (rest : List Byte) (hi : index < 256)
    (hb : backlog < 65536) (hu : used < 16777216) (hc : check < 65536) :
    readBurstHeader (bytesOf 1 index ++ bytesOf 2 backlog ++ bytesOf 3 used ++ bytesOf 2 check ++ rest)
      = if check = checkOfBytes (bytesOf 1 index ++ bytesOf 2 backlog ++ bytesOf 3 used)
        then some { index := index, backlog := backlog, bytesUsed := used } else none := by
  simp only [readBurstHeader, field]
  simp [List.take_append, List.drop_append, List.take_of_length_le, List.drop_of_length_le,
    Nat.mod_eq_of_lt hi, Nat.mod_eq_of_lt hb, Nat.mod_eq_of_lt hu, Nat.mod_eq_of_lt hc, eq_comm (a := check)]

theorem readReply_bytes (serial : Serial) {delay check : Nat} (rest : List Byte) (hd : delay < 256)
    (hc : check < 65536) :
    readReply (bytesOf 8 serial.toNat ++ bytesOf 1 delay ++ bytesOf 2 check ++ rest)
      = if check = checkOfBytes (bytesOf 8 serial.toNat ++ bytesOf 1 delay) then some (serial, delay)
        else none := by
  have hs : serial.toNat < 18446744073709551616 := serial.isLt
  simp only [readReply, field]
  simp [List.take_append, List.drop_append, List.take_of_length_le, List.drop_of_length_le,
    Nat.mod_eq_of_lt hs, Nat.mod_eq_of_lt hd, Nat.mod_eq_of_lt hc, eq_comm (a := check)]

/-- Settles O27: the marker bits are taken out bit by bit, and each field is what its bits or bytes
spell. -/
theorem framesAndLightReadBackAsSent : Obligations.FramesAndLightReadBackAsSent := by
  refine ⟨fun cls sender dest kind body rest hc hs hd hk hb => readFrame_frameBits rest hc hs hd hk hb,
    fun index backlog used check rest hi hb hu hc => ?_, fun serial delay check rest hd hc => ?_⟩
  · intro covered
    exact readBurstHeader_bytes rest hi hb hu hc
  · intro covered
    exact readReply_bytes serial rest hd hc

end Sys2Proof.Machine
end

section
/-! SUPPORT. The bytes of a list of fields, and the layouts of chapter 11 as such lists: settings are read
back field by field, and every body, record, round header and control word is its fields written out. -/

namespace Sys2Proof.Machine

/-! ### Fields written out -/

/-- The bytes of a list of fields, each given as its length in bytes and its value. -/
def written (fields : List (Nat × Nat)) : List Byte := fields.flatMap (fun f => bytesOf f.1 f.2)

@[simp] theorem written_nil : written [] = [] := rfl

@[simp] theorem written_cons (f : Nat × Nat) (fields : List (Nat × Nat)) :
    written (f :: fields) = bytesOf f.1 f.2 ++ written fields := rfl

@[simp] theorem written_append (fields others : List (Nat × Nat)) :
    written (fields ++ others) = written fields ++ written others := List.flatMap_append

theorem written_length (fields : List (Nat × Nat)) :
    (written fields).length = (fields.map Prod.fst).sum := by
  induction fields with
  | nil => rfl
  | cons f fields ih => simp [ih]

theorem laidOut_written (fields : List (Nat × Nat)) : laidOut (written fields) fields := by
  induction fields with
  | nil => rfl
  | cons f fields ih =>
    obtain ⟨len, n⟩ := f
    refine ⟨?_, ?_, ?_⟩
    · simp
    · simp
    · simpa using ih

theorem laidOut_of_eq {bytes : List Byte} {fields : List (Nat × Nat)} (h : bytes = written fields) :
    laidOut bytes fields := h ▸ laidOut_written fields

/-- The `k`-th field of bytes written is read with its value, at the offset of the fields before it. -/
theorem field_written {fields : List (Nat × Nat)} (k : Nat) {off len n : Nat} (rest : List Byte)
    (hk : fields[k]? = some (len, n)) (hoff : ((fields.take k).map Prod.fst).sum = off) :
    field off len (written fields ++ rest) = n % 256 ^ len := by
  induction fields generalizing k off with
  | nil => cases hk
  | cons f fields ih =>
    cases k with
    | zero =>
      obtain rfl : f = (len, n) := by simpa using hk
      subst hoff
      simp [field]
    | succ k =>
      have hrest := ih k (off := off - f.1) (by simpa using hk) (by subst hoff; simp)
      have hle : f.1 ≤ off := by subst hoff; simp
      rw [← hrest]
      simp [field, List.drop_append, List.drop_of_length_le, hle]

/-! ### Single fields -/

theorem bytesOf_one_ofNat (n : Nat) : bytesOf 1 n = [BitVec.ofNat 8 n] := by simp [bytesOf]

theorem boolByte_written (b : Bool) : [boolByte b] = bytesOf 1 (if b = true then 1 else 0) := by
  cases b <;> rfl

theorem bytesOfInt_eq (n : Int) : bytesOfInt n = bytesOf 2 (n % 65536).toNat := by
  rw [bytesOfInt, BitVec.toNat_ofInt]
  rfl

theorem sum_flags (l : List Bool) (k : Nat) :
    ((l.zipIdx k).map (fun x => if x.1 = true then 2 ^ x.2 else 0)).sum = 2 ^ k * flagBits l := by
  induction l generalizing k with
  | nil => rfl
  | cons b l ih =>
    simp only [List.zipIdx_cons, List.map_cons, List.sum_cons, ih, flagBits]
    cases b <;> simp [pow_succ] <;> ring

/-- Flags weighted from bit 0 are the sum of the weights set. -/
theorem flagBits_eq (l : List Bool) :
    flagBits l = (l.zipIdx.map (fun x => if x.1 = true then 2 ^ x.2 else 0)).sum := by
  simpa using (sum_flags l 0).symm

theorem testBit_flagBits (l : List Bool) (k : Nat) : (flagBits l).testBit k = l.getD k false := by
  induction l generalizing k with
  | nil => simp [flagBits]
  | cons b l ih =>
    cases k with
    | zero => cases b <;> simp [flagBits, Nat.testBit_zero]
    | succ k =>
      have hhalf : (b.toNat + 2 * flagBits l) / 2 = flagBits l := by cases b <;> simp; omega
      simp [flagBits, Nat.testBit_succ, hhalf, ih]

/-! ### Settings -/

/-- The rates of the eight tiers, as a SETTINGS body lists them (R184). -/
def tierFields (c : Settings) : List (Nat × Nat) :=
  [0, 1, 2, 3, 4, 5, 6, 7].flatMap (fun k => [(2, (c.tiers.get k).cr), (2, (c.tiers.get k).pr)])

/-- The fields of a SETTINGS body (R184). -/
def settingsFields (c : Settings) : List (Nat × Nat) :=
  [(1, c.enabled.toNat), (3, c.capacity), (2, c.admitCap)]
    ++ tierFields c
    ++ [(1, c.unitExp), (1, c.callEvery), (1, c.pollEvery), (1, c.silentLimit),
      (2, (c.levelMin % 65536).toNat), (2, (c.levelMax % 65536).toNat), (2, (c.litLevel % 65536).toNat),
      (1, c.darkLitMin), (1, c.darkRounds), (1, c.verifyRounds), (1, c.scoreLimit), (1, c.relapseLimit),
      (2, c.claimWait), (3, c.admitWait), (3, c.lostHold), (3, c.quenchHold), (3, c.barHold),
      (3, c.foreignRetry), (2, c.pickupWait), (2, c.confirmWait), (1, c.secondManager),
      (1, if c.aliasOn = true then 1 else 0)]

theorem tiers_toList (c : Settings) : c.tiers.toList = [0, 1, 2, 3, 4, 5, 6, 7].map c.tiers.get := by
  have hrange : List.finRange 8 = [0, 1, 2, 3, 4, 5, 6, 7] := by decide
  rw [← hrange]
  apply List.ext_getElem <;> simp [Vector.get]

theorem written_tierFields (c : Settings) :
    c.tiers.toList.flatMap (fun r => bytesOf 2 r.cr ++ bytesOf 2 r.pr) = written (tierFields c) := by
  simp [tiers_toList, tierFields, written, List.flatMap_map, List.flatMap_assoc]

theorem settingsBytes_eq (c : Settings) : settingsBytes c = written (settingsFields c) := by
  unfold settingsBytes settingsFields
  rw [written_tierFields, boolByte_written, bytesOfInt_eq, bytesOfInt_eq, bytesOfInt_eq]
  simp only [written_append, written_cons, written_nil, List.append_assoc, List.append_nil]

theorem fieldInt_eq (off : Nat) (b : List Byte) :
    fieldInt off b = (BitVec.ofNat 16 (field off 2 b)).toInt := rfl

theorem toInt_of_signed {n : Int} (h : fitsSigned n = true) :
    (BitVec.ofNat 16 ((n % 65536).toNat % 256 ^ 2)).toInt = n := by
  simp only [fitsSigned, Bool.and_eq_true, decide_eq_true_eq] at h
  simp only [BitVec.toInt, BitVec.toNat_ofNat]
  omega

/-- The widths of the fields of a SETTINGS body (R184). -/
def settingsWidths : List Nat :=
  [1, 3, 2] ++ List.replicate 16 2 ++ [1, 1, 1, 1, 2, 2, 2, 1, 1, 1, 1, 1, 2, 3, 3, 3, 3, 3, 2, 2, 1, 1]

theorem settingsFields_widths (c : Settings) (k : Nat) :
    ((settingsFields c).take k).map Prod.fst = settingsWidths.take k := by
  rw [List.map_take]
  rfl

/-- A field of the SETTINGS body is read with its value, where it fits its width. -/
theorem field_settingsBytes {c : Settings} (rest : List Byte) (k : Nat) {off len n : Nat}
    (hk : (settingsFields c)[k]? = some (len, n))
    (hoff : (settingsWidths.take k).sum = off) (hn : n < 256 ^ len) :
    field off len (settingsBytes c ++ rest) = n := by
  rw [settingsBytes_eq, field_written k rest hk (by rw [settingsFields_widths]; exact hoff), Nat.mod_eq_of_lt hn]

/-- A signed field of the SETTINGS body is read with its value. -/
theorem fieldInt_settingsBytes {c : Settings} (rest : List Byte) (k : Nat) {off : Nat} {n : Int}
    (hk : (settingsFields c)[k]? = some (2, (n % 65536).toNat))
    (hoff : (settingsWidths.take k).sum = off) (hn : fitsSigned n = true) :
    fieldInt off (settingsBytes c ++ rest) = n := by
  rw [fieldInt_eq, settingsBytes_eq, field_written k rest hk (by rw [settingsFields_widths]; exact hoff), toInt_of_signed hn]

theorem tiers_settingsBytes {c : Settings} (rest : List Byte)
    (hc : ∀ r ∈ c.tiers.toList, r.cr < 256 ^ 2 ∧ r.pr < 256 ^ 2) :
    (tabulate (fun k : Fin 8 => (⟨field (6 + 4 * k.val) 2 (settingsBytes c ++ rest),
      field (8 + 4 * k.val) 2 (settingsBytes c ++ rest)⟩ : TierRates))) = c.tiers := by
  have hget : ∀ k : Fin 8, (c.tiers.get k).cr < 256 ^ 2 ∧ (c.tiers.get k).pr < 256 ^ 2 := fun k =>
    hc _ (by rw [tiers_toList]; exact List.mem_map_of_mem (by fin_cases k <;> decide))
  have hrates : ∀ k : Fin 8, field (6 + 4 * k.val) 2 (settingsBytes c ++ rest) = (c.tiers.get k).cr
      ∧ field (8 + 4 * k.val) 2 (settingsBytes c ++ rest) = (c.tiers.get k).pr := by
    intro k
    have hcr := (hget k).1
    have hpr := (hget k).2
    fin_cases k
    · exact ⟨field_settingsBytes rest 3 rfl rfl hcr, field_settingsBytes rest 4 rfl rfl hpr⟩
    · exact ⟨field_settingsBytes rest 5 rfl rfl hcr, field_settingsBytes rest 6 rfl rfl hpr⟩
    · exact ⟨field_settingsBytes rest 7 rfl rfl hcr, field_settingsBytes rest 8 rfl rfl hpr⟩
    · exact ⟨field_settingsBytes rest 9 rfl rfl hcr, field_settingsBytes rest 10 rfl rfl hpr⟩
    · exact ⟨field_settingsBytes rest 11 rfl rfl hcr, field_settingsBytes rest 12 rfl rfl hpr⟩
    · exact ⟨field_settingsBytes rest 13 rfl rfl hcr, field_settingsBytes rest 14 rfl rfl hpr⟩
    · exact ⟨field_settingsBytes rest 15 rfl rfl hcr, field_settingsBytes rest 16 rfl rfl hpr⟩
    · exact ⟨field_settingsBytes rest 17 rfl rfl hcr, field_settingsBytes rest 18 rfl rfl hpr⟩
  apply Vector.ext
  intro k hk
  obtain ⟨hcr, hpr⟩ := hrates ⟨k, hk⟩
  simp [tabulate, hcr, hpr, Vector.get]

theorem settingsOfBytes_settingsBytes {c : Settings} (rest : List Byte) (hc : c.wf = true) :
    settingsOfBytes (settingsBytes c ++ rest) = c := by
  simp only [Settings.wf, fitsBytes, Bool.and_eq_true, decide_eq_true_eq, List.all_eq_true] at hc
  obtain ⟨⟨⟨⟨⟨⟨⟨⟨⟨⟨⟨⟨⟨⟨⟨⟨⟨⟨⟨⟨⟨⟨⟨capacity, admitCap⟩, tiers⟩, unitExp⟩, callEvery⟩, pollEvery⟩, silentLimit⟩,
    levelMin⟩, levelMax⟩, litLevel⟩, darkLitMin⟩, darkRounds⟩, verifyRounds⟩, scoreLimit⟩, relapseLimit⟩,
    claimWait⟩, admitWait⟩, lostHold⟩, quenchHold⟩, barHold⟩, foreignRetry⟩, pickupWait⟩, confirmWait⟩,
    secondManager⟩ := hc
  have henabled : BitVec.ofNat 4 (field 0 1 (settingsBytes c ++ rest)) = c.enabled := by
    rw [field_settingsBytes rest 0 (off := 0) (len := 1) rfl rfl (by have := c.enabled.isLt; omega), BitVec.ofNat_toNat,
      BitVec.setWidth_eq]
  have halias : decide (field 75 1 (settingsBytes c ++ rest) ≠ 0) = c.aliasOn := by
    rw [field_settingsBytes rest 40 (off := 75) (len := 1) rfl rfl (by split <;> decide)]
    cases c.aliasOn <;> rfl
  simp only [settingsOfBytes, henabled, halias, tiers_settingsBytes rest tiers,
    fieldInt_settingsBytes rest 23 (off := 42) rfl rfl levelMin, fieldInt_settingsBytes rest 24 (off := 44) rfl rfl levelMax,
    fieldInt_settingsBytes rest 25 (off := 46) rfl rfl litLevel,
    field_settingsBytes rest 1 (off := 1) (len := 3) rfl rfl capacity,
    field_settingsBytes rest 2 (off := 4) (len := 2) rfl rfl admitCap,
    field_settingsBytes rest 19 (off := 38) (len := 1) rfl rfl unitExp,
    field_settingsBytes rest 20 (off := 39) (len := 1) rfl rfl callEvery,
    field_settingsBytes rest 21 (off := 40) (len := 1) rfl rfl pollEvery,
    field_settingsBytes rest 22 (off := 41) (len := 1) rfl rfl silentLimit,
    field_settingsBytes rest 26 (off := 48) (len := 1) rfl rfl darkLitMin,
    field_settingsBytes rest 27 (off := 49) (len := 1) rfl rfl darkRounds,
    field_settingsBytes rest 28 (off := 50) (len := 1) rfl rfl verifyRounds,
    field_settingsBytes rest 29 (off := 51) (len := 1) rfl rfl scoreLimit,
    field_settingsBytes rest 30 (off := 52) (len := 1) rfl rfl relapseLimit,
    field_settingsBytes rest 31 (off := 53) (len := 2) rfl rfl claimWait,
    field_settingsBytes rest 32 (off := 55) (len := 3) rfl rfl admitWait,
    field_settingsBytes rest 33 (off := 58) (len := 3) rfl rfl lostHold,
    field_settingsBytes rest 34 (off := 61) (len := 3) rfl rfl quenchHold,
    field_settingsBytes rest 35 (off := 64) (len := 3) rfl rfl barHold,
    field_settingsBytes rest 36 (off := 67) (len := 3) rfl rfl foreignRetry,
    field_settingsBytes rest 37 (off := 70) (len := 2) rfl rfl pickupWait,
    field_settingsBytes rest 38 (off := 72) (len := 2) rfl rfl confirmWait,
    field_settingsBytes rest 39 (off := 74) (len := 1) rfl rfl secondManager]

theorem settingsBytes_length (c : Settings) : (settingsBytes c).length = 76 := by
  have hwidths := settingsFields_widths c 41
  rw [settingsBytes_eq, written_length]
  exact congrArg List.sum hwidths

/-! ### Codes, in the order of R183 -/

theorem stateCode_eq (x : RecordState) :
    stateCode x = [RecordState.free, .claiming, .awaiting, .active, .quenched, .barred, .lost].idxOf x := by
  cases x <;> rfl

theorem ResetCause.code_eq (x : ResetCause) : x.code = [ResetCause.power, .pin].idxOf x := by
  cases x <;> rfl

theorem ChipState.code_eq (x : ChipState) :
    x.code = [ChipState.waitingSettings, .running].idxOf x := by
  cases x <;> rfl

theorem CloneSource.code_eq (x : CloneSource) :
    x.code = [CloneSource.reply, .lateObjection, .objected].idxOf x := by
  cases x <;> rfl

theorem LightName.code_eq (x : LightName) :
    x.code = [LightName.clear, .search, .verify, .foreign, .off].idxOf x := by
  cases x <;> rfl

theorem AlarmKind.code_eq (x : AlarmKind) :
    x.code = [AlarmKind.addressClash, .rogueScore, .relapseLimit, .searchStart, .rogueFound
      , .foreignLight].idxOf x := by
  cases x <;> rfl

theorem AlarmCause.code_eq (x : AlarmCause) :
    x.code = [AlarmCause.sending, .received, .darkStreak, .retry, .ignoringDarken, .confirmed, .listEmpty
      , .verifyFailed].idxOf x := by
  cases x <;> rfl

theorem DeclineReason.code_eq (x : DeclineReason) :
    x.code = [DeclineReason.notFound, .wrongState, .capacity, .badTier, .badRange, .locked].idxOf x := by
  cases x <;> rfl

theorem DepartedReason.code_eq (x : DepartedReason) :
    x.code = [DepartedReason.dismissed, .refused, .lostExpired, .yielded, .moved, .restart
      , .merged].idxOf x := by
  cases x <;> rfl

theorem SerialRequest.code_eq (x : SerialRequest) :
    x.code = 0x11 + [SerialRequest.admission, .refuse, .release, .dismiss].idxOf x := by
  cases x <;> rfl

/-! ### Bodies -/

/-- The fields with which every answer opens (R183). -/
def referenceFields : Reference → List (Nat × Nat)
  | .settings => [(1, 0x10)]
  | .serial request held =>
      [(1, 0x11 + [SerialRequest.admission, .refuse, .release, .dismiss].idxOf request),
        (8, held.toNat)]
  | .restart tree => [(1, 0x17), (1, tree)]
  | .read kind tree first count => [(1, 0x15), (1, kind), (1, tree), (1, first), (1, count)]
  | .confirm tag => [(1, 0x16), (1, tag)]
  | .query subject q => [(1, 0x18), (1, subject), (1, q.form), (1, q.tree), (1, q.index),
      (8, q.serial.toNat)]

theorem written_reference (ref : Reference) : ref.bytes = written (referenceFields ref) := by
  cases ref <;>
    simp [Reference.bytes, referenceFields, SerialRequest.code_eq, serialBytes, queryBytes,
      bytesOf_one_ofNat]

/-- The flags and the five counters of a record (R186). -/
def counterFields (k : Counters) : List (Nat × Nat) :=
  [(1, k.flags), (4, k.up.val), (4, k.down.val), (4, k.activeRounds.val), (4, k.throttledRounds.val),
    (4, k.impairedRounds.val)]

theorem written_counters (k : Counters) : k.bytes = written (counterFields k) := by
  simp [Counters.bytes, counterFields]

/-- A bit of a TEST-DARK bitmap says whether its home is among those named. -/
theorem testDark_bit (homes : List HomeIdx) (h : HomeIdx) :
    (((List.range 16).map (fun k => BitVec.ofNat 8 (flagBits ((List.range 8).map (fun j =>
        homes.any (fun x => decide (x.val = 8 * k + j))))))).getD (h.val / 8) 0).getLsbD (h.val % 8)
      = decide (h ∈ homes) := by
  have hbyte : h.val / 8 < 16 := by omega
  have hbit : h.val % 8 < 8 := by omega
  have hplace : ∀ x : HomeIdx, x.val = 8 * (h.val / 8) + h.val % 8 ↔ x = h := fun x => by
    rw [Nat.div_add_mod, Fin.ext_iff]
  simp only [List.getD_eq_getElem?_getD, List.getElem?_map, List.getElem?_range hbyte, Option.map_some,
    Option.getD_some, BitVec.getLsbD_ofNat, hbit, decide_true, Bool.true_and, testBit_flagBits,
    List.getElem?_range hbit, hplace]
  rw [Bool.eq_iff_iff]
  simp

theorem written_grants (grants : List Grant) :
    grants.flatMap Grant.bytes
      = written (grants.flatMap (fun g => [(1, g.home.val), (2, g.start), (2, g.payload)])) := by
  have hgrant : Grant.bytes = fun g => written [(1, g.home.val), (2, g.start), (2, g.payload)] := by
    funext g; simp [Grant.bytes]
  rw [hgrant]
  simp [written, List.flatMap_assoc]

theorem written_map (len : Nat) (l : List Nat) :
    written (l.map (fun n => (len, n))) = l.flatMap (bytesOf len) := by
  simp [written, List.flatMap_map]

/-- Settles O28: settings are read back field by field, and each layout is its fields written out. -/
theorem settingsReadBackAndMessagesAreLaidOut : Obligations.SettingsReadBackAndMessagesAreLaidOut := by
  refine ⟨fun c rest hc => ⟨settingsBytes_length c, settingsOfBytes_settingsBytes rest hc⟩, ?_⟩
  intro state flag signed bits counters request opening reason inForce
  have hopening : opening = referenceFields := by
    funext ref; cases ref <;> rfl
  have hcounters : counters = counterFields := by
    funext k
    simp only [counters, bits, counterFields, Counters.flags, flagBits_eq]
  have hinForce : inForce = inForceBytes := by
    funext c; cases c <;> rfl
  have hstate : stateCode = state := funext stateCode_eq
  have hcause := funext AlarmCause.code_eq
  refine ⟨?_, ?_, ?_, ?_, ?_, ?_, ?_, ?_, ?_, ?_, ?_, ?_, ?_, ?_, ?_, ?_, ?_, ?_, ?_, ?_, ?_, ?_⟩
  · intro address cause chipState round
    exact laidOut_of_eq (by simp [Msg.body, ResetCause.code_eq, ChipState.code_eq])
  · intro c e n
    exact laidOut_of_eq (by simp [Msg.body])
  · intro serial t h
    exact laidOut_of_eq (by simp [Msg.body, serialBytes])
  · intro serial tree index
    exact laidOut_of_eq (by simp [Msg.body, serialBytes])
  · intro serial t h rtt level
    exact laidOut_of_eq (by simp [Msg.body, serialBytes, signed, bytesOfInt_eq])
  · intro c
    exact laidOut_of_eq (by
      simp [Msg.body, Clone.bytes, serialBytes, signed, bytesOfInt_eq, state, stateCode_eq,
        CloneSource.code_eq])
  · intro q
    exact laidOut_of_eq (by simp [Msg.body, QuotaNotice.bytes, serialBytes])
  · intro a
    exact laidOut_of_eq (by
      simp only [Msg.body, Alarm.bytes, serialBytes, boolByte_written, flag, hstate, AlarmKind.code_eq,
        hcause, written_cons, written_nil, List.append_assoc, List.append_nil])
  · intro ref
    refine ⟨ref.bytes, ?_, ?_, ?_, ?_, rfl, rfl, ?_, fun x => rfl⟩
    · exact laidOut_of_eq (by rw [hopening, written_reference])
    · intro c
      rw [hinForce]; rfl
    · intro x c
      rw [hinForce, Msg.body, bytesOf_one_ofNat, DeclineReason.code_eq]
    · intro tag
      exact laidOut_of_eq (by simp [Msg.body, hopening, written_reference])
    · intro tag first count records
      exact ⟨written [(1, tag), (1, first), (1, count), (1, records.length)], laidOut_written _,
        by simp [Msg.body]⟩
  · intro serial t h generation interval k
    exact laidOut_of_eq (by
      simp [DataRecord.bytes, SnapshotRecord.bytes, serialBytes, hcounters, written_counters,
        bytesOf_one_ofNat])
  · intro serial t h generation tag
    have hzero : written (counterFields Counters.zero) = bytesOf 21 0 := by decide
    exact laidOut_of_eq (by
      simp [DataRecord.bytes, SnapshotRecord.bytes, serialBytes, written_counters, hzero,
        bytesOf_one_ofNat])
  · intro t h x
    have hzero : serialBytes 0 ++ bytesOf 2 0 ++ bytesOf 2 0 ++ [0] ++ written (counterFields Counters.zero)
      = bytesOf 34 0 := by decide
    exact laidOut_of_eq (by
      simp [DataRecord.bytes, SnapshotRecord.bytes, written_counters, ← hzero, bytesOf_one_ofNat, state,
        stateCode_eq])
  · intro d
    exact laidOut_of_eq (by
      simp [DataRecord.bytes, DepartedRecord.bytes, serialBytes, hcounters, written_counters,
        DepartedReason.code_eq])
  · intro x
    refine laidOut_of_eq ?_
    change ChipStatus.bytes x = _
    unfold ChipStatus.bytes BusCounters.bytes managerByte figureBytes
    simp only [boolByte_written, flag, ChipState.code_eq, ResetCause.code_eq, List.flatMap_cons,
      List.flatMap_nil, written_cons, written_nil, List.append_assoc, List.append_nil]
  · intro x
    exact laidOut_of_eq (by
      simp [StatusBody.bytes, TreeStatus.bytes, figureBytes, boolByte_written, flag, LightName.code_eq,
        written_map])
  · intro x r
    refine laidOut_of_eq ?_
    change HomeStatus.bytes x = _
    unfold HomeStatus.bytes HomeRecord.presence serialBytes
    simp only [bytesOfInt_eq, boolByte_written, flag, signed, bits, hstate, flagBits_eq, r, written_cons,
      written_nil, List.append_assoc, List.append_nil]
  · intro m
    cases m <;> rfl
  · intro round p words
    exact ⟨_, written ([(2, round), (1, p.grants.length), (1, flag p.call), (1, words.length)]
        ++ p.grants.flatMap (fun g => [(1, g.home.val), (2, g.start), (2, g.payload)])),
      words.flatMap ControlWord.bytes, rfl, by
        simp [written_grants, boolByte_written, flag], rfl, laidOut_written _⟩
  · intro h serial eqd
    exact laidOut_of_eq (by simp [ControlWord.bytes, serialBytes, bytesOf_one_ofNat])
  · intro h
    exact ⟨laidOut_of_eq (by simp [ControlWord.bytes, bytesOf_one_ofNat]),
      laidOut_of_eq (by simp [ControlWord.bytes, bytesOf_one_ofNat]),
      laidOut_of_eq (by simp [ControlWord.bytes, bytesOf_one_ofNat])⟩
  · exact laidOut_of_eq (by simp [ControlWord.bytes, bytesOf_one_ofNat])
  · intro round homes
    exact ⟨_, by simp, rfl, testDark_bit homes⟩

end Sys2Proof.Machine
end

section
/-! SUPPORT. What the operations on homes, words and messages keep: the chip's figures, the order of the
transmit queue, the places of the trees and the watch of their records (`State.steady`), and with them the
readouts, the marks and the homes held in snapshots (`State.calm`). -/

namespace Sys2Proof.Machine

/-! ### The relations -/

/-- The transmit queue is within its bounds: 16 entries, at most one on the line, none clashed 16 times. -/
def queueOrderly (q : List TxEntry) : Prop :=
  q.length ≤ 16 ∧ (∀ e ∈ q, e.clashes < 16) ∧ (q.filter (fun e => e.onLine)).length ≤ 1

/-- A tree's Transmitter and Receiver keep to their places. -/
def Tree.placed (a : Tree) : Prop :=
  a.tx.words.length ≤ 160 ∧ (a.tx.pendingPlans.length ≤ 2 ∧ a.rx.awaiting.length ≤ 2)
    ∧ (a.tx.taken.length ≤ 64 ∧ ∀ f ∈ a.tx.taken, f.bytes.length ≤ 16384) ∧ a.tx.lineRoom ≤ 500000
    ∧ ∀ w, a.rx.window = some w → w.settled ≤ w.plan.grants.length

/-- A tree's search candidates, test_dark flags and verified record stand as the watch requires. -/
def Tree.watched (a : Tree) : Prop :=
  (∀ d, a.light = .search d → (d.testHalf ++ d.rest).Pairwise (fun h k => h < k)
      ∧ (∀ h ∈ d.testHalf ++ d.rest, (a.home h).record.state ≠ .free)
      ∧ ∀ h, (a.home h).record.testDark = some (decide (h ∈ d.testHalf)))
    ∧ (a.light.isSearch = false → ∀ h, (a.home h).record.testDark = none)
    ∧ ∀ v, a.light = .verify v →
      (a.home v.home).record.state ≠ .free ∧ (a.home v.home).record.generation = v.generation

/-- The step from one tree to another keeps its places and its watch. -/
structure Tree.steady (a b : Tree) : Prop where
  places : a.placed → b.placed
  watch : a.watched → b.watched

/-- No home of the second tree is held in a snapshot that did not hold it in the first. -/
def Tree.holdsNoMore (a b : Tree) : Prop :=
  ∀ h x tag, (b.home h).usage = some x → x.inSnapshot = some tag →
    (∃ y, (a.home h).usage = some y ∧ y.inSnapshot = some tag)
      ∧ (b.home h).record.generation = (a.home h).record.generation

/-- The commands that wait, the round, the share and the Interface's figures stand. -/
structure State.sameFigures (s u : State) : Prop where
  pending : u.pending = s.pending
  inReset : u.inReset = s.inReset
  round : u.round = s.round
  share : u.share = s.share
  chipState : u.bus.chipState = s.bus.chipState
  address : u.bus.address = s.bus.address
  managers : u.bus.managers = s.bus.managers
  settings : u.bus.settings = s.bus.settings
  helloCountdown : u.bus.helloCountdown = s.bus.helloCountdown

/-- The step from one state to another keeps the chip's figures, the order of the transmit queue, and the
places and the watch of every tree. -/
structure State.steady (s u : State) : Prop where
  figures : s.sameFigures u
  queue : queueOrderly s.bus.queue → queueOrderly u.bus.queue
  trees : ∀ t, (s.tree t).steady (u.tree t)

/-- A steady step that leaves the readouts and the marks of departed records alone, and holds no home in a
snapshot that was not held there before. -/
structure State.calm (s u : State) : Prop extends s.steady u where
  readouts : u.meter.readouts = s.meter.readouts
  nextTag : u.meter.nextTag = s.meter.nextTag
  departed : s.meter.departed.length ≤ 32 → u.meter.departed.length ≤ 32
  marked : u.meter.departed.filter DepartedRecord.marked = s.meter.departed.filter DepartedRecord.marked
  held : ∀ t, (s.tree t).holdsNoMore (u.tree t)

theorem placesInv_iff (s : State) : PlacesInv s ↔ ∀ t, (s.tree t).placed := by
  constructor
  · intro ⟨words, plans, taken, room, settled⟩ t
    exact ⟨words t, plans t, taken t, room t, settled t⟩
  · intro h
    exact ⟨fun t => (h t).1, fun t => (h t).2.1, fun t => (h t).2.2.1, fun t => (h t).2.2.2.1,
      fun t => (h t).2.2.2.2⟩

theorem watchInv_iff (s : State) : WatchInv s ↔ ∀ t, (s.tree t).watched := by
  constructor
  · intro ⟨searching, others, verifying⟩ t
    exact ⟨searching t, others t, verifying t⟩
  · intro h
    exact ⟨fun t => (h t).1, fun t => (h t).2.1, fun t => (h t).2.2⟩

/-! ### One after another -/

theorem Tree.steady_refl (a : Tree) : a.steady a := ⟨id, id⟩

theorem Tree.steady.trans {a b c : Tree} (p : a.steady b) (q : b.steady c) : a.steady c :=
  ⟨fun h => q.places (p.places h), fun h => q.watch (p.watch h)⟩

theorem Tree.holdsNoMore_refl (a : Tree) : a.holdsNoMore a :=
  fun _ x _ hx htag => ⟨⟨x, hx, htag⟩, rfl⟩

theorem Tree.holdsNoMore.trans {a b c : Tree} (p : a.holdsNoMore b) (q : b.holdsNoMore c) :
    a.holdsNoMore c := by
  intro h x tag hx htag
  obtain ⟨⟨y, hy, hytag⟩, hgen⟩ := q h x tag hx htag
  obtain ⟨hheld, hgen'⟩ := p h y tag hy hytag
  exact ⟨hheld, hgen.trans hgen'⟩

theorem State.sameFigures_refl (s : State) : s.sameFigures s :=
  ⟨rfl, rfl, rfl, rfl, rfl, rfl, rfl, rfl, rfl⟩

theorem State.sameFigures.trans {a b c : State} (p : a.sameFigures b) (q : b.sameFigures c) :
    a.sameFigures c :=
  ⟨q.pending.trans p.pending, q.inReset.trans p.inReset, q.round.trans p.round, q.share.trans p.share,
    q.chipState.trans p.chipState, q.address.trans p.address, q.managers.trans p.managers,
    q.settings.trans p.settings, q.helloCountdown.trans p.helloCountdown⟩

theorem State.steady_refl (s : State) : s.steady s :=
  ⟨s.sameFigures_refl, id, fun t => (s.tree t).steady_refl⟩

theorem State.steady.trans {a b c : State} (p : a.steady b) (q : b.steady c) : a.steady c :=
  ⟨p.figures.trans q.figures, fun h => q.queue (p.queue h), fun t => (p.trees t).trans (q.trees t)⟩

theorem State.calm_refl (s : State) : s.calm s :=
  ⟨s.steady_refl, rfl, rfl, id, rfl, fun t => (s.tree t).holdsNoMore_refl⟩

theorem State.calm.trans {a b c : State} (p : a.calm b) (q : b.calm c) : a.calm c :=
  ⟨p.tosteady.trans q.tosteady, q.readouts.trans p.readouts, q.nextTag.trans p.nextTag,
    fun h => q.departed (p.departed h), q.marked.trans p.marked, fun t => (p.held t).trans (q.held t)⟩

theorem State.calm_ite {s a b : State} {c : Prop} [Decidable c] (ha : s.calm a) (hb : s.calm b) :
    s.calm (if c then a else b) := by
  split <;> assumption

theorem State.steady_foldl {α : Type} {f : State → α → State}
    (hf : ∀ (s : State) x, s.steady (f s x)) (s : State)
    (l : List α) : s.steady (l.foldl f s) := by
  induction l generalizing s with
  | nil => exact s.steady_refl
  | cons x l ih => exact (hf s x).trans (ih (f s x))

theorem State.calm_foldl {α : Type} {f : State → α → State} (hf : ∀ (s : State) x, s.calm (f s x)) (s : State)
    (l : List α) : s.calm (l.foldl f s) := by
  induction l generalizing s with
  | nil => exact s.calm_refl
  | cons x l ih => exact (hf s x).trans (ih (f s x))

/-! ### Steps that leave the trees alone -/

section plain
variable (s : State)

theorem State.steady_of_trees {u : State} (hf : s.sameFigures u)
    (hq : queueOrderly s.bus.queue → queueOrderly u.bus.queue) (ht : u.trees = s.trees) : s.steady u :=
  ⟨hf, hq, fun t => by rw [State.tree, State.tree, ht]; exact Tree.steady_refl _⟩

theorem State.calm_of_trees {u : State} (hf : s.sameFigures u)
    (hq : queueOrderly s.bus.queue → queueOrderly u.bus.queue) (ht : u.trees = s.trees)
    (hm : u.meter = s.meter) : s.calm u :=
  ⟨s.steady_of_trees hf hq ht, by rw [hm], by rw [hm], by rw [hm]; exact id, by rw [hm],
    fun t => by rw [State.tree, State.tree, ht]; exact Tree.holdsNoMore_refl _⟩

theorem State.calm_emit (o : Output) : s.calm (s.emit o) :=
  s.calm_of_trees ⟨rfl, rfl, rfl, rfl, rfl, rfl, rfl, rfl, rfl⟩ id rfl rfl

theorem State.calm_raise (c : Instr) : s.calm (s.raise c) :=
  s.calm_of_trees ⟨rfl, rfl, rfl, rfl, rfl, rfl, rfl, rfl, rfl⟩ id rfl rfl

theorem State.calm_take (c : Instr) : s.calm (s.take c) :=
  s.calm_of_trees ⟨rfl, rfl, rfl, rfl, rfl, rfl, rfl, rfl, rfl⟩ id rfl rfl

theorem State.calm_indexSerial (x : Serial) (t : TreeId) (h : HomeIdx) : s.calm (s.indexSerial x t h) :=
  s.calm_of_trees ⟨rfl, rfl, rfl, rfl, rfl, rfl, rfl, rfl, rfl⟩ id rfl rfl

theorem State.calm_modCounters (f : BusCounters → BusCounters) : s.calm (s.modCounters f) :=
  s.calm_of_trees ⟨rfl, rfl, rfl, rfl, rfl, rfl, rfl, rfl, rfl⟩ id rfl rfl

theorem State.calm_setQueue (q : List TxEntry) (hq : queueOrderly s.bus.queue → queueOrderly q) :
    s.calm (s.setQueue q) :=
  s.calm_of_trees ⟨rfl, rfl, rfl, rfl, rfl, rfl, rfl, rfl, rfl⟩ hq rfl rfl

theorem State.calm_tell (fin : EntryEnd) (e : TxEntry) : s.calm (s.tell fin e) := by
  unfold State.tell
  dsimp only
  split
  · exact (s.calm_emit _).trans (State.calm_raise _ _)
  · exact (s.calm_emit _).trans (State.calm_raise _ _)
  · exact s.calm_emit _

theorem State.steady_modMeter (f : Meter → Meter) : s.steady (s.modMeter f) :=
  s.steady_of_trees ⟨rfl, rfl, rfl, rfl, rfl, rfl, rfl, rfl, rfl⟩ id rfl

/-! ### The transmit queue -/

/-- An entry not yet sent, at the end of an orderly queue from which others may have left. -/
theorem queueOrderly_append {q q' : List TxEntry} {e : TxEntry} (hq : queueOrderly q)
    (hsub : q'.Sublist q) (hlen : q'.length < 16) (hoff : e.onLine = false) (hclash : e.clashes < 16) :
    queueOrderly (q' ++ [e]) := by
  obtain ⟨-, hclashes, hline⟩ := hq
  refine ⟨by simp; omega, ?_, ?_⟩
  · intro x hx
    rcases List.mem_append.mp hx with hx | hx
    · exact hclashes x (hsub.subset hx)
    · rw [List.mem_singleton.mp hx]; exact hclash
  · have := (hsub.filter (fun e => e.onLine)).length_le
    simp only [List.filter_append, List.length_append]
    simp [hoff]
    omega

theorem dropYoungest_sublist {α : Type} (p : α → Bool) (l : List α) : (dropYoungest p l).Sublist l := by
  simpa [dropYoungest] using (List.eraseP_sublist (p := p) (l := l.reverse)).reverse

theorem dropYoungest_length {α : Type} {p : α → Bool} {l : List α} {x : α}
    (hx : youngest? p l = some x) : (dropYoungest p l).length = l.length - 1 := by
  have hany : l.reverse.any p = true :=
    List.any_eq_true.mpr ⟨x, List.mem_of_find?_eq_some hx, List.find?_some hx⟩
  simp only [dropYoungest, List.length_reverse, List.length_eraseP, hany, if_true]

/-- A message is posted as an entry off the line without clashes, and the queue stays orderly. -/
theorem State.calm_postEntry (e : TxEntry) (hoff : e.onLine = false) (hclash : e.clashes < 16) :
    s.calm (s.postEntry e) := by
  have replaced : ∀ p x, youngest? p s.bus.queue = some x → queueOrderly s.bus.queue →
      queueOrderly (dropYoungest p s.bus.queue ++ [e]) := fun p x hx hq => by
    have hlen := dropYoungest_length hx
    have hpos : 0 < s.bus.queue.length :=
      List.length_pos_of_mem (List.mem_reverse.mp (List.mem_of_find?_eq_some hx))
    have := hq.1
    exact queueOrderly_append hq (dropYoungest_sublist p _) (by omega) hoff hclash
  unfold State.postEntry
  dsimp only
  split
  · next x hx => exact (s.calm_setQueue _ (replaced _ x hx)).trans (State.calm_tell _ _ _)
  · split
    · next hroom =>
      exact s.calm_setQueue _ (fun hq => queueOrderly_append hq (List.Sublist.refl _) hroom hoff hclash)
    · split
      · split
        · next x hx =>
          exact ((s.calm_setQueue _ (replaced _ x hx)).trans (State.calm_modCounters _ _)).trans
            (State.calm_tell _ _ _)
        · exact (s.calm_modCounters _).trans (State.calm_tell _ _ _)
      · exact (s.calm_modCounters _).trans (State.calm_tell _ _ _)

theorem State.calm_post (p : Block) (d : Nat) (m : Msg) : s.calm (s.post p d m) :=
  s.calm_postEntry _ rfl (Nat.zero_lt_succ 15)

theorem State.calm_postClaim (h : Handle) (serial : Serial) : s.calm (s.postClaim h serial) :=
  s.calm_postEntry _ rfl (Nat.zero_lt_succ 15)

theorem State.calm_alarm (a : Alarm) : s.calm (s.alarm a) := s.calm_post _ _ _

end plain

/-! ### Steps on one tree -/

section oneTree
variable (s : State) (t : TreeId)

theorem State.steady_modTree (f : Tree → Tree) (hf : (s.tree t).steady (f (s.tree t))) :
    s.steady (s.modTree t f) := by
  refine ⟨⟨rfl, rfl, rfl, rfl, rfl, rfl, rfl, rfl, rfl⟩, id, fun v => ?_⟩
  by_cases hv : v = t
  · subst hv; rw [State.tree_modTree_self]; exact hf
  · rw [State.tree_modTree_other _ _ _ _ hv]; exact Tree.steady_refl _

theorem State.calm_modTree (f : Tree → Tree) (hf : (s.tree t).steady (f (s.tree t)))
    (hheld : (s.tree t).holdsNoMore (f (s.tree t))) : s.calm (s.modTree t f) := by
  refine ⟨s.steady_modTree t f hf, rfl, rfl, id, rfl, fun v => ?_⟩
  by_cases hv : v = t
  · subst hv; rw [State.tree_modTree_self]; exact hheld
  · rw [State.tree_modTree_other _ _ _ _ hv]; exact Tree.holdsNoMore_refl _

/-- A tree whose homes and light state stand keeps its watch. -/
theorem Tree.steady_of_homes {a b : Tree} (hp : a.placed → b.placed) (hl : b.light = a.light)
    (hh : b.homes = a.homes) : a.steady b := by
  refine ⟨hp, fun hw => ?_⟩
  simpa only [Tree.watched, Tree.home, hl, hh] using hw

theorem Tree.holdsNoMore_of_homes {a b : Tree} (hh : b.homes = a.homes) : a.holdsNoMore b := by
  intro h x tag hx htag
  simp only [Tree.home, hh] at hx ⊢
  exact ⟨⟨x, hx, htag⟩, trivial⟩

theorem State.calm_modTree_line (f : Tree → Tree) (hp : (s.tree t).placed → (f (s.tree t)).placed)
    (hl : (f (s.tree t)).light = (s.tree t).light) (hh : (f (s.tree t)).homes = (s.tree t).homes) :
    s.calm (s.modTree t f) :=
  s.calm_modTree t f (Tree.steady_of_homes hp hl hh) (Tree.holdsNoMore_of_homes hh)

theorem Tree.placed_push (a : Tree) (w : ControlWord) (hp : a.placed) :
    ({ a with tx := (a.tx.push w).1 } : Tree).placed := by
  obtain ⟨hwords, hplans, htaken, hroom, hwindow⟩ := hp
  have hpush := Transmitter.push_length_le a.tx w hwords
  have hsame : (a.tx.push w).1.pendingPlans = a.tx.pendingPlans ∧ (a.tx.push w).1.taken = a.tx.taken
      ∧ (a.tx.push w).1.lineRoom = a.tx.lineRoom := by
    unfold Transmitter.push
    split
    · exact ⟨rfl, rfl, rfl⟩
    · split <;> exact ⟨rfl, rfl, rfl⟩
  obtain ⟨hsamePlans, hsameTaken, hsameRoom⟩ := hsame
  refine ⟨hpush, ?_, ?_, ?_, hwindow⟩
  · exact ⟨by rw [hsamePlans]; exact hplans.1, hplans.2⟩
  · rw [hsameTaken]; exact htaken
  · rw [hsameRoom]; exact hroom

theorem State.calm_queueWord (w : ControlWord) : s.calm (s.queueWord t w) :=
  s.calm_modTree_line t _ (Tree.placed_push _ w) rfl rfl

end oneTree

/-! ### Steps on one home -/

section oneHome
variable (s : State) (t : TreeId) (h : HomeIdx)

/-- A change of a home that keeps what the watch looks at. -/
theorem Tree.watched_modHome (a : Tree) (f : Home → Home)
    (hstate : (f (a.home h)).record.state = (a.home h).record.state)
    (hgen : (f (a.home h)).record.generation = (a.home h).record.generation)
    (hdark : (f (a.home h)).record.testDark = (a.home h).record.testDark) (hw : a.watched) :
    (a.modHome h f).watched := by
  have hhome : ∀ k, ((a.modHome h f).home k).record.state = (a.home k).record.state
      ∧ ((a.modHome h f).home k).record.generation = (a.home k).record.generation
      ∧ ((a.modHome h f).home k).record.testDark = (a.home k).record.testDark := fun k => by
    by_cases hk : k = h
    · subst hk; rw [Tree.home_modHome_self]; exact ⟨hstate, hgen, hdark⟩
    · rw [Tree.home_modHome_other _ _ _ _ hk]; exact ⟨rfl, rfl, rfl⟩
  obtain ⟨hsearch, hothers, hverify⟩ := hw
  refine ⟨fun d hd => ?_, fun hl k => ?_, fun v hv => ?_⟩
  · obtain ⟨hsorted, hfree, hflags⟩ := hsearch d hd
    exact ⟨hsorted, fun k hk => by rw [(hhome k).1]; exact hfree k hk,
      fun k => by rw [(hhome k).2.2]; exact hflags k⟩
  · rw [(hhome k).2.2]; exact hothers hl k
  · rw [(hhome v.home).1, (hhome v.home).2.1]; exact hverify v hv

/-- The usage entry given is held in no snapshot but the one that held the other. -/
def heldAs (x y : Option UsageEntry) : Prop :=
  ∀ b tag, y = some b → b.inSnapshot = some tag → ∃ a, x = some a ∧ a.inSnapshot = some tag

theorem heldAs_refl (x : Option UsageEntry) : heldAs x x := fun b _ hb htag => ⟨b, hb, htag⟩

theorem heldAs_none (x : Option UsageEntry) : heldAs x none := fun _ _ hb => by cases hb

theorem heldAs_new (x : Option UsageEntry) : heldAs x (some newUsage) := fun b tag hb htag => by
  cases hb; cases htag

theorem Tree.holdsNoMore_modHome (a : Tree) (f : Home → Home)
    (hgen : (f (a.home h)).record.generation = (a.home h).record.generation)
    (husage : heldAs (a.home h).usage (f (a.home h)).usage) : a.holdsNoMore (a.modHome h f) := by
  intro k x tag hx htag
  by_cases hk : k = h
  · subst hk
    rw [Tree.home_modHome_self] at hx ⊢
    exact ⟨husage x tag hx htag, hgen⟩
  · rw [Tree.home_modHome_other _ _ _ _ hk] at hx ⊢
    exact ⟨⟨x, hx, htag⟩, rfl⟩

/-- A change of a home that keeps its state, its generation and its test_dark flag. -/
theorem State.calm_modHome (f : Home → Home)
    (hstate : (f (s.home t h)).record.state = (s.home t h).record.state)
    (hgen : (f (s.home t h)).record.generation = (s.home t h).record.generation)
    (hdark : (f (s.home t h)).record.testDark = (s.home t h).record.testDark)
    (husage : heldAs (s.home t h).usage (f (s.home t h)).usage) : s.calm (s.modHome t h f) :=
  s.calm_modTree t _ ⟨fun hp => hp, Tree.watched_modHome h _ f hstate hgen hdark⟩
    (Tree.holdsNoMore_modHome h _ f hgen husage)

theorem State.calm_modRecord (f : HomeRecord → HomeRecord)
    (hstate : (f (s.record t h)).state = (s.record t h).state)
    (hgen : (f (s.record t h)).generation = (s.record t h).generation)
    (hdark : (f (s.record t h)).testDark = (s.record t h).testDark) : s.calm (s.modRecord t h f) :=
  s.calm_modHome t h _ hstate hgen hdark (heldAs_refl _)

theorem State.calm_modUsage (f : UsageEntry → UsageEntry)
    (hf : ∀ x, (f x).inSnapshot = x.inSnapshot ∨ (f x).inSnapshot = none) :
    s.calm (s.modUsage t h f) := by
  refine s.calm_modHome t h _ rfl rfl rfl (fun b tag hb htag => ?_)
  obtain ⟨x, hx, rfl⟩ := Option.map_eq_some_iff.mp hb
  rcases hf x with hsame | hnone
  · exact ⟨x, hx, hsame ▸ htag⟩
  · rw [hnone] at htag; cases htag

/-! ### The departed list and the quota -/

theorem Meter.append_marked (m : Meter) {d : DepartedRecord} (hd : d.mark = none) :
    (m.append d).departed.filter DepartedRecord.marked = m.departed.filter DepartedRecord.marked := by
  have hnew : [d].filter DepartedRecord.marked = [] := by simp [DepartedRecord.marked, hd]
  have herase : ∀ l : List DepartedRecord,
      (l.eraseP (fun x => x.mark.isNone)).filter DepartedRecord.marked
        = l.filter DepartedRecord.marked := fun l => by
    induction l with
    | nil => rfl
    | cons x l ih =>
      cases hx : x.mark with
      | none => simp [List.eraseP_cons, hx, DepartedRecord.marked]
      | some tag =>
        simp only [List.eraseP_cons, hx, Option.isNone_some, cond_false, List.filter_cons, ih]
  unfold Meter.append
  split
  · rw [List.filter_append, hnew, List.append_nil]
  · split
    · rw [List.filter_append, hnew, List.append_nil, herase]
    · rfl

theorem Meter.append_length (m : Meter) (d : DepartedRecord) (hm : m.departed.length ≤ 32) :
    (m.append d).departed.length ≤ 32 := by
  unfold Meter.append
  split
  · next hroom =>
    have : m.departed.length < 32 := hroom
    simp; omega
  · split
    · next hany =>
      have hlen := List.length_eraseP (p := fun x : DepartedRecord => x.mark.isNone) (l := m.departed)
      rw [if_pos hany] at hlen
      obtain ⟨x, hx, -⟩ := List.any_eq_true.mp hany
      have := List.length_pos_of_mem hx
      simp; omega
    · exact hm

theorem State.calm_append (d : DepartedRecord) (hd : d.mark = none) :
    s.calm (s.modMeter (·.append d)) :=
  ⟨s.steady_modMeter _, Meter.append_readouts _ _, by
    unfold State.modMeter Meter.append; dsimp only; split <;> [rfl; (split <;> rfl)],
    Meter.append_length _ _, Meter.append_marked _ hd, fun v => Tree.holdsNoMore_refl _⟩

theorem State.calm_evaluateQuota : s.calm (s.evaluateQuota t h) :=
  State.calm_ite ((s.calm_modRecord t h _ rfl rfl rfl).trans (State.calm_post _ _ _ _)) s.calm_refl

theorem State.calm_clearThrottle : s.calm (s.clearThrottle t h) :=
  State.calm_ite s.calm_refl (s.calm_modRecord t h _ rfl rfl rfl)

theorem State.calm_reviewQuota : s.calm (s.reviewQuota t h) :=
  (s.calm_evaluateQuota t h).trans (State.calm_clearThrottle _ t h)

theorem State.calm_handOff (reason : DepartedReason) : s.calm (s.handOff t h reason) := by
  unfold State.handOff
  dsimp only
  split
  · exact s.calm_refl
  · exact (s.calm_append _ rfl).trans (State.calm_modHome _ t h _ rfl rfl rfl (heldAs_none _))

theorem State.calm_handOffTiered (reason : DepartedReason) : s.calm (s.handOffTiered t h reason) :=
  State.calm_ite (s.calm_handOff t h reason) s.calm_refl

/-! ### A change of state -/

theorem Tree.watched_search {b : Tree} {d : Search} (hb : b.light = .search d)
    (hsorted : (d.testHalf ++ d.rest).Pairwise (fun h k => h < k))
    (hfree : ∀ k ∈ d.testHalf ++ d.rest, (b.home k).record.state ≠ .free)
    (hdark : ∀ k, (b.home k).record.testDark = some (decide (k ∈ d.testHalf))) : b.watched := by
  refine ⟨fun e he => ?_, fun he => ?_, fun v hv => ?_⟩
  · obtain rfl : d = e := Light.search.inj (hb.symm.trans he)
    exact ⟨hsorted, hfree, hdark⟩
  · rw [hb] at he; cases he
  · rw [hb] at hv; cases hv

theorem Tree.watched_verify {b : Tree} {v : Verify} (hb : b.light = .verify v)
    (hdark : ∀ k, (b.home k).record.testDark = none) (hfree : (b.home v.home).record.state ≠ .free)
    (hgen : (b.home v.home).record.generation = v.generation) : b.watched := by
  refine ⟨fun d hd => ?_, fun _ => hdark, fun x hx => ?_⟩
  · rw [hb] at hd; cases hd
  · obtain rfl : v = x := Light.verify.inj (hb.symm.trans hx)
    exact ⟨hfree, hgen⟩

theorem Tree.watched_quiet {b : Tree} (hsearch : ∀ d, b.light ≠ .search d) (hverify : ∀ v, b.light ≠ .verify v)
    (hdark : ∀ k, (b.home k).record.testDark = none) : b.watched :=
  ⟨fun d hd => absurd hd (hsearch d), fun _ => hdark, fun v hv => absurd hv (hverify v)⟩

/-- The watch after a record change notice: a freed record leaves the search and ends its verification. -/
theorem Tree.watched_notice {a b : Tree} {new : RecordState} {cause : Cause}
    (hother : ∀ k, k ≠ h → b.home k = a.home k)
    (hlight : b.light = a.light.afterNotice h (a.home h).record.generation new cause)
    (hstate : (b.home h).record.state = new)
    (hgen : (b.home h).record.generation = (a.home h).record.generation)
    (hdark : (b.home h).record.testDark = darkAfterNotice a.light new cause (a.home h).record.testDark)
    (hw : a.watched) : b.watched := by
  obtain ⟨hsearch, hothers, hverify⟩ := hw
  cases hl : a.light with
  | search d =>
    obtain ⟨hsorted, hfree, hflags⟩ := hsearch d hl
    by_cases hgone : new = .free ∨ cause = .scoreQuench
    · have hb : b.light = .search { d with testHalf := d.testHalf.filter (· ≠ h)
                                           rest := d.rest.filter (· ≠ h) } := by
        rw [hlight, hl]; exact if_pos hgone
      have hfilter : ∀ l : List HomeIdx, ∀ k, k ∈ l.filter (· ≠ h) ↔ k ∈ l ∧ k ≠ h := by
        intro l k; simp
      refine Tree.watched_search hb ?_ (fun k hk => ?_) (fun k => ?_)
      · rw [← List.filter_append]; exact hsorted.sublist List.filter_sublist
      · rw [← List.filter_append, hfilter] at hk
        rw [hother k hk.2]; exact hfree k hk.1
      · by_cases hk : k = h
        · subst hk
          rw [hdark, hl, hflags]
          simp [darkAfterNotice, Light.isSearch, hgone]
        · rw [hother k hk, hflags]
          simp [hk]
    · have hb : b.light = .search d := by rw [hlight, hl]; exact if_neg hgone
      refine Tree.watched_search hb hsorted (fun k hk => ?_) (fun k => ?_)
      · by_cases hkh : k = h
        · subst hkh; rw [hstate]; exact fun hn => hgone (.inl hn)
        · rw [hother k hkh]; exact hfree k hk
      · by_cases hkh : k = h
        · subst hkh
          rw [hdark, hl, hflags]
          have hstays : new ≠ .free ∧ cause ≠ .scoreQuench := ⟨fun hn => hgone (.inl hn), fun hc => hgone (.inr hc)⟩
          simp [darkAfterNotice, hstays.1, hstays.2]
        · rw [hother k hkh]; exact hflags k
  | verify v =>
    have hnone : ∀ k, (b.home k).record.testDark = none := fun k => by
      have hk := hothers (by rw [hl]; rfl)
      by_cases hkh : k = h
      · subst hkh; rw [hdark, hk]; simp [darkAfterNotice]
      · rw [hother k hkh]; exact hk k
    obtain ⟨hvfree, hvgen⟩ := hverify v hl
    have hb : b.light = .clear 0 ∨ (∃ v', b.light = .verify v' ∧ v'.home = v.home
        ∧ v'.generation = v.generation ∧ (v.home = h → new ≠ .free)) := by
      rw [hlight, hl]
      simp only [Light.afterNotice]
      split
      · split
        · exact .inl rfl
        · next hnew =>
          have hnotfree : v.home = h → new ≠ .free := fun _ hn => hnew (.inl hn)
          split <;> exact .inr ⟨_, rfl, rfl, rfl, hnotfree⟩
      · next hother' => exact .inr ⟨v, rfl, rfl, rfl, fun hvh => absurd ⟨hvh, by rw [← hvh]; exact hvgen.symm⟩ hother'⟩
    rcases hb with hb | ⟨v', hb, hvh', hvg', hnew⟩
    · exact Tree.watched_quiet (by simp [hb]) (by simp [hb]) hnone
    · have hkept : (b.home v.home).record.state ≠ .free
          ∧ (b.home v.home).record.generation = v.generation := by
        by_cases hvh : v.home = h
        · rw [hvh] at hvgen ⊢
          rw [hstate, hgen]; exact ⟨hnew hvh, hvgen⟩
        · rw [hother _ hvh]; exact ⟨hvfree, hvgen⟩
      exact Tree.watched_verify hb hnone (by rw [hvh']; exact hkept.1) (by rw [hvh', hvg']; exact hkept.2)
  | clear n | foreign n | off =>
    have hb := hlight
    rw [hl] at hb
    refine Tree.watched_quiet (by simp [hb, Light.afterNotice]) (by simp [hb, Light.afterNotice])
      (fun k => ?_)
    have hk := hothers (by rw [hl]; rfl)
    by_cases hkh : k = h
    · subst hkh; rw [hdark, hk]; simp [darkAfterNotice]
    · rw [hother k hkh]; exact hk k

theorem State.sameChip.figures {s u : State} (h : s.sameChip u) : s.sameFigures u := by
  obtain ⟨⟨hpending, hreset, hround, -, -⟩, ⟨hchip, -, haddress, hsettings, hmanagers, hhello, -, -⟩,
    hshare, -⟩ := h
  exact ⟨hpending, hreset, hround, hshare, hchip, haddress, hmanagers, hsettings, hhello⟩

end oneHome

end Sys2Proof.Machine
end

section
/-! SUPPORT. Which operations of the records, of enrolment and of the management requests are calm or
steady. -/

namespace Sys2Proof.Machine

/-! ### A change of state -/

section change
variable (s : State) (t : TreeId) (h : HomeIdx)

theorem State.changeState_queue (new : RecordState) (timer : Option Nat) (cause : Cause)
    (hq : queueOrderly s.bus.queue) : queueOrderly (s.changeState t h new timer cause).bus.queue := by
  by_cases hc : cause = .scoreQuench
  · subst hc
    have hbus := (s.changeState_alarms t h new timer).1
    rw [hbus]
    split
    · exact ((s.calm_alarm _).trans (State.calm_alarm _ _)).queue hq
    · exact (s.calm_alarm _).queue hq
  · rw [(s.changeState_sameTraffic t h new timer cause hc).1]; exact hq

theorem State.calm_changeState (new : RecordState) (timer : Option Nat) (cause : Cause) :
    s.calm (s.changeState t h new timer cause) := by
  obtain ⟨hchip, hother, -, -⟩ := s.changeState_onlyHome t h new timer cause
  have htree := s.changeState_tree t h new timer cause
  have hmeter := s.changeState_meter t h new timer cause
  have hhome : ∀ k, k ≠ h → (((s.changeState t h new timer cause).tree t).home k) = (s.tree t).home k :=
    fun k hk => by rw [htree, Tree.home_withLight, Tree.home_modHome_other _ _ _ _ hk]
  have hself : ((s.changeState t h new timer cause).tree t).home h
      = ((s.tree t).home h).changed s.cfg.relapseLimit (s.tree t).light new timer cause :=
    s.changeState_home t h new timer cause
  refine ⟨⟨hchip.figures, s.changeState_queue t h new timer cause, fun v => ?_⟩, by rw [hmeter],
    by rw [hmeter], by rw [hmeter]; exact id, by rw [hmeter], fun v => ?_⟩
  · by_cases hv : v = t
    · subst hv
      refine ⟨fun hp => by rw [htree]; exact hp, fun hw => ?_⟩
      refine Tree.watched_notice h hhome (s.changeState_light v h new timer cause) ?_ ?_ ?_ hw
        <;> rw [hself] <;> rfl
    · rw [hother v hv]; exact Tree.steady_refl _
  · by_cases hv : v = t
    · subst hv
      intro k x tag hx htag
      by_cases hk : k = h
      · subst hk
        rw [hself] at hx ⊢
        refine ⟨?_, rfl⟩
        have husage : heldAs ((s.tree v).home k).usage
            (((s.tree v).home k).changed s.cfg.relapseLimit (s.tree v).light new timer cause).usage := by
          unfold Home.changed
          dsimp only
          split
          · exact heldAs_new _
          · exact heldAs_refl _
        exact husage x tag hx htag
      · rw [hhome k hk] at hx ⊢; exact ⟨⟨x, hx, htag⟩, rfl⟩
    · rw [hother v hv]; exact Tree.holdsNoMore_refl _

theorem State.calm_freeWithDismiss (cause : Cause) : s.calm (s.freeWithDismiss t h cause) :=
  (s.calm_changeState t h _ _ _).trans (State.calm_queueWord _ t _)

theorem State.calm_departWithDismiss (reason : DepartedReason) (cause : Cause) :
    s.calm (s.departWithDismiss t h reason cause) :=
  (s.calm_handOffTiered t h reason).trans (State.calm_freeWithDismiss _ t h cause)

theorem State.calm_contest : s.calm (s.contest t h) := s.calm_modRecord t h _ rfl rfl rfl

theorem State.calm_alarmRelapseLimit : s.calm (s.alarmRelapseLimit t h) :=
  State.calm_ite (s.calm_alarm _) s.calm_refl

end change

/-! ### Enrolment -/

section enrolment
variable (s : State) (t : TreeId) (h : HomeIdx)

theorem State.calm_postClone (source : CloneSource) (replyTree rtt : Nat) (level : Int) (peer : Nat) :
    s.calm (s.postClone t h source replyTree rtt level peer) := s.calm_post _ _ _

theorem State.calm_queueDelay : s.calm (s.queueDelay t h) := s.calm_queueWord t _

theorem State.calm_modFigures (f : EnrolFigures → EnrolFigures) : s.calm (s.modFigures t f) :=
  s.calm_modTree_line t _ id rfl rfl

theorem State.calm_clone (v : TreeId) (k : HomeIdx) (rtt : Nat) (level : Int) :
    s.calm (s.clone t v k rtt level) :=
  (s.calm_contest v k).trans (State.calm_postClone _ _ _ _ _ _ _ _)

theorem State.calm_renewDelay (rtt : Nat) (level : Int) : s.calm (s.renewDelay t h rtt level) :=
  (s.calm_modRecord t h _ rfl rfl rfl).trans (State.calm_queueDelay _ t h)

theorem State.calm_reenrol (rtt : Nat) (level : Int) : s.calm (s.reenrol t h rtt level) :=
  ((s.calm_modRecord t h _ rfl rfl rfl).trans (State.calm_changeState _ t h _ _ _)).trans
    (State.calm_queueDelay _ t h)

/-- A FREE record that is prepared for a home is neither a candidate nor verified. -/
theorem Tree.watched_free (a : Tree) (f : Home → Home) (hfree : (a.home h).record.state = .free)
    (hstate : (f (a.home h)).record.state = .free)
    (hdark : (f (a.home h)).record.testDark = (a.home h).record.testDark) (hw : a.watched) :
    (a.modHome h f).watched := by
  have hother : ∀ k, (a.home k).record.state ≠ .free → (a.modHome h f).home k = a.home k := fun k hk =>
    Tree.home_modHome_other _ _ _ _ (fun hkh => hk (hkh ▸ hfree))
  have hflags : ∀ k, ((a.modHome h f).home k).record.testDark = (a.home k).record.testDark := fun k => by
    by_cases hk : k = h
    · subst hk; rw [Tree.home_modHome_self]; exact hdark
    · rw [Tree.home_modHome_other _ _ _ _ hk]
  obtain ⟨hsearch, hothers, hverify⟩ := hw
  refine ⟨fun d hd => ?_, fun hl k => (hflags k).trans (hothers hl k), fun v hv => ?_⟩
  · obtain ⟨hsorted, hcandidates, hdarks⟩ := hsearch d hd
    refine ⟨hsorted, fun k hk => ?_, fun k => (hflags k).trans (hdarks k)⟩
    rw [hother k (hcandidates k hk)]; exact hcandidates k hk
  · obtain ⟨hvfree, hvgen⟩ := hverify v hv
    rw [hother v.home hvfree]; exact ⟨hvfree, hvgen⟩

variable (serial : Serial) (rtt : Nat) (level : Int)

theorem State.steady_allocate (hfree : (s.record t h).state = .free) :
    s.steady (s.allocate t h serial rtt level) := by
  refine State.steady.trans ?_ (State.calm_changeState _ t h _ _ _).tosteady
  refine State.steady.trans ?_ (State.calm_indexSerial _ _ _ _).tosteady
  exact s.steady_modTree t (fun tr => tr.modHome h _) ⟨id, Tree.watched_free h _ _ hfree hfree rfl⟩

theorem State.calm_allocate (hfree : (s.record t h).state = .free) (hunused : (s.home t h).usage = none) :
    s.calm (s.allocate t h serial rtt level) := by
  refine State.calm.trans ?_ (State.calm_changeState _ t h _ _ _)
  refine State.calm.trans ?_ (State.calm_indexSerial _ _ _ _)
  refine s.calm_modTree t (fun tr => tr.modHome h _) ⟨id, Tree.watched_free h _ _ hfree hfree rfl⟩
    (fun k x tag hx htag => ?_)
  by_cases hk : k = h
  · subst hk
    rw [Tree.home_modHome_self] at hx
    exact absurd (hunused.symm.trans hx) (by simp)
  · rw [Tree.home_modHome_other _ _ _ _ hk] at hx ⊢
    exact ⟨⟨x, hx, htag⟩, rfl⟩

theorem State.calm_enrolled : (s.allocate t h serial rtt level).calm (s.enrolAt t h serial rtt level) :=
  (State.calm_queueDelay _ t h).trans (State.calm_postClaim _ _ _)

theorem State.lowestFree_free {s : State} {t : TreeId} {h : HomeIdx} (hlow : s.lowestFree t = some h) :
    (s.record t h).state = .free := by
  have hfound := List.find?_some (p := fun k => decide ((s.record t k).state = .free)) hlow
  exact of_decide_eq_true hfound

theorem State.steady_enrolNew : s.steady (s.enrolNew t serial rtt level) := by
  unfold State.enrolNew
  split
  · next k hk =>
    exact (s.steady_allocate t k serial rtt level (State.lowestFree_free hk)).trans
      (State.calm_enrolled _ _ _ _ _ _).tosteady
  · exact (s.calm_modFigures t _).tosteady

theorem State.calm_enrolNew (hunused : ∀ k, (s.record t k).state = .free → (s.home t k).usage = none) :
    s.calm (s.enrolNew t serial rtt level) := by
  unfold State.enrolNew
  split
  · next k hk =>
    have hfree := State.lowestFree_free hk
    exact (s.calm_allocate t k serial rtt level hfree (hunused k hfree)).trans
      (State.calm_enrolled _ _ _ _ _ _)
  · exact s.calm_modFigures t _

theorem State.steady_moveHome (u : TreeId) : s.steady (s.moveHome t u h serial rtt level) := by
  unfold State.moveHome
  split
  · exact (s.calm_departWithDismiss u h _ _).tosteady.trans (State.steady_enrolNew _ t _ _ _)
  · exact (s.calm_modFigures t _).tosteady

theorem State.calm_moveHome {u : TreeId} (hu : u ≠ t)
    (hunused : ∀ k, (s.record t k).state = .free → (s.home t k).usage = none) :
    s.calm (s.moveHome t u h serial rtt level) := by
  unfold State.moveHome
  split
  · refine (s.calm_departWithDismiss u h .moved .moved).trans (State.calm_enrolNew _ t _ _ _ ?_)
    have hother := (s.departWithDismiss_onlyHome u h .moved .moved).2.1 t hu.symm
    simpa only [State.record, State.home, hother] using hunused
  · exact s.calm_modFigures t _

theorem State.steady_acceptReply : s.steady (s.acceptReply t serial rtt level) := by
  unfold State.acceptReply
  split
  · exact s.steady_enrolNew t serial rtt level
  · split
    · exact (s.calm_reenrol t _ rtt level).tosteady
    · exact s.steady_moveHome t _ serial rtt level _
    · exact (s.calm_renewDelay t _ rtt level).tosteady
    · exact (s.calm_renewDelay t _ rtt level).tosteady
    · exact (s.calm_clone t _ _ rtt level).tosteady
    · exact (s.calm_clone t _ _ rtt level).tosteady
    · exact (s.calm_clone t _ _ rtt level).tosteady
    · exact (s.calm_clone t _ _ rtt level).tosteady
    · exact (s.calm_queueWord t _).tosteady
    · exact s.steady_refl
    · exact s.steady_refl

theorem State.calm_acceptReply
    (hunused : ∀ k, (s.record t k).state = .free → (s.home t k).usage = none) :
    s.calm (s.acceptReply t serial rtt level) := by
  unfold State.acceptReply
  split
  · exact s.calm_enrolNew t serial rtt level hunused
  · split
    · exact s.calm_reenrol t _ rtt level
    · next hne => exact s.calm_moveHome t _ serial rtt level (of_decide_eq_false hne) hunused
    · exact s.calm_renewDelay t _ rtt level
    · exact s.calm_renewDelay t _ rtt level
    · exact s.calm_clone t _ _ rtt level
    · exact s.calm_clone t _ _ rtt level
    · exact s.calm_clone t _ _ rtt level
    · exact s.calm_clone t _ _ rtt level
    · exact s.calm_queueWord t _
    · exact s.calm_refl
    · exact s.calm_refl

theorem State.steady_takeReply (reply : ReplyRecord) : s.steady (s.takeReply reply) := by
  unfold State.takeReply
  split
  · exact (s.calm_modFigures _ _).tosteady
  · dsimp only
    split
    · exact (s.calm_modFigures _ _).tosteady
    · split
      · exact (s.calm_modFigures _ _).tosteady
      · exact s.steady_acceptReply _ _ _ _

theorem State.calm_takeReply (reply : ReplyRecord)
    (hunused : ∀ v k, (s.record v k).state = .free → (s.home v k).usage = none) :
    s.calm (s.takeReply reply) := by
  unfold State.takeReply
  split
  · exact s.calm_modFigures _ _
  · dsimp only
    split
    · exact s.calm_modFigures _ _
    · split
      · exact s.calm_modFigures _ _
      · exact s.calm_acceptReply _ _ _ _ (hunused _)

theorem State.calm_barByPeer (peer : Nat) : s.calm (s.barByPeer t h peer) :=
  ((s.calm_changeState t h _ _ _).trans (State.calm_queueWord _ t _)).trans
    (State.calm_postClone _ _ _ _ _ _ _ _)

theorem State.calm_answerClaim (peer : Nat) (tree index : Nat) :
    s.calm (s.answerClaim peer serial tree index t h) := by
  unfold State.answerClaim State.objectTo
  split
  · exact (s.calm_post _ _ _).trans (State.calm_contest _ t h)
  · exact (s.calm_post _ _ _).trans (State.calm_contest _ t h)
  · exact (s.calm_post _ _ _).trans (State.calm_contest _ t h)
  · exact (s.calm_post _ _ _).trans (State.calm_barByPeer _ t h peer)
  · exact s.calm_departWithDismiss t h _ _
  · exact s.calm_post _ _ _
  · exact s.calm_refl

theorem State.calm_answerObject (peer : Nat) : s.calm (s.answerObject peer t h) := by
  unfold State.answerObject
  split
  · exact s.calm_barByPeer t h peer
  · exact (s.calm_contest t h).trans (State.calm_postClone _ _ _ _ _ _ _ _)
  · exact (s.calm_contest t h).trans (State.calm_postClone _ _ _ _ _ _ _ _)
  all_goals exact s.calm_refl

theorem State.calm_admitHome (tier : Fin 8) (quota : Nat) : s.calm (s.admitHome t h tier quota) :=
  (s.calm_modRecord t h _ rfl rfl rfl).trans (State.calm_changeState _ t h _ _ _)

theorem State.calm_changeTier (tier : Fin 8) (quota : Nat) : s.calm (s.changeTier t h tier quota) :=
  (s.calm_modRecord t h _ rfl rfl rfl).trans (State.calm_reviewQuota _ t h)

theorem State.calm_admitAt (sender : Nat) (tier : Fin 8) (quota : Nat) :
    s.calm (s.admitAt sender serial tier quota t h) := by
  unfold State.admitAt State.acceptAdmit State.declineAdmit
  split
  · exact State.calm_ite ((s.calm_admitHome t h tier quota).trans (State.calm_post _ _ _ _)) (s.calm_post _ _ _)
  · exact State.calm_ite ((s.calm_changeTier t h tier quota).trans (State.calm_post _ _ _ _)) (s.calm_post _ _ _)
  · exact State.calm_ite ((s.calm_changeTier t h tier quota).trans (State.calm_post _ _ _ _)) (s.calm_post _ _ _)
  · exact State.calm_ite ((s.calm_changeTier t h tier quota).trans (State.calm_post _ _ _ _)) (s.calm_post _ _ _)
  all_goals exact s.calm_post _ _ _

/-! ### Requests on homes -/

theorem State.calm_refuseHome : s.calm (s.refuseHome t h) :=
  ((s.calm_handOffTiered t h _).trans (State.calm_changeState _ t h _ _ _)).trans (State.calm_queueWord _ t _)

theorem State.calm_releaseHome (sender : Nat) : s.calm (s.releaseHome sender serial t h) := by
  unfold State.releaseHome State.acceptHome State.declineHome
  split
  · exact ((s.calm_changeState t h _ _ _).trans (State.calm_queueWord _ t _)).trans (State.calm_post _ _ _ _)
  · exact (s.calm_freeWithDismiss t h _).trans (State.calm_post _ _ _ _)
  all_goals exact s.calm_post _ _ _

end enrolment

end Sys2Proof.Machine
end

section
/-! SUPPORT. Which operations of the Meter, the Monitor, the Planner and the tree side are calm or steady. -/

namespace Sys2Proof.Machine

/-! ### Steps on all homes of a tree -/

section homes
variable (s : State) (t : TreeId)

/-- A change of every home of a tree that keeps what the watch looks at. -/
theorem Tree.watched_mapHomes {a b : Tree} (hl : b.light = a.light)
    (hh : ∀ k, (b.home k).record.state = (a.home k).record.state
      ∧ (b.home k).record.generation = (a.home k).record.generation
      ∧ (b.home k).record.testDark = (a.home k).record.testDark) (hw : a.watched) : b.watched := by
  simpa only [Tree.watched, hl, (hh _).1, (hh _).2.1, (hh _).2.2] using hw

theorem State.steady_mapHomes (f : HomeIdx → Home → Home)
    (hrecord : ∀ h, (f h ((s.tree t).home h)).record = ((s.tree t).home h).record) :
    s.steady (s.modTree t (fun tr => tr.mapHomes f)) :=
  s.steady_modTree t _ ⟨id, Tree.watched_mapHomes rfl (fun k => by
    rw [Tree.home_mapHomes, hrecord]; exact ⟨rfl, rfl, rfl⟩)⟩

theorem Home.countRound_record (x : Home) (impaired : Bool) : (x.countRound impaired).record = x.record := by
  unfold Home.countRound
  split <;> rfl

theorem State.calm_countRounds (round : Nat) : s.calm (s.countRounds t round) := by
  refine s.calm_modTree t _ (s.steady_mapHomes t (fun h x => x.countRound ((s.tree t).impaired round h))
    (fun h => Home.countRound_record _ _) |>.trees t |> fun hst => by simpa using hst) ?_
  intro k x tag hx htag
  rw [Tree.home_mapHomes] at hx ⊢
  refine ⟨?_, by rw [Home.countRound_record]⟩
  unfold Home.countRound at hx
  split at hx
  · obtain ⟨y, hy, rfl⟩ := Option.map_eq_some_iff.mp hx
    exact ⟨y, hy, htag⟩
  · exact ⟨x, hx, htag⟩

theorem State.steady_cut (e : Readout) : s.steady (s.cut e) := by
  unfold State.cut
  split
  · exact s.steady_refl
  · refine State.steady.trans (s.steady_mapHomes _ _ (fun h => ?_)) (State.steady_modMeter _ _)
    split <;> rfl

theorem State.steady_meterReceiveEnd (round : Nat) : s.steady (s.meterReceiveEnd t round) :=
  (s.calm_countRounds t round).tosteady.trans (State.steady_foldl State.steady_cut _ _)

end homes

/-! ### The Meter -/

section meter
variable (s : State) (t : TreeId) (h : HomeIdx)

theorem State.calm_countUp (bytes : Nat) : s.calm (s.countUp t h bytes) := by
  unfold State.countUp
  split
  · exact s.calm_refl
  · have hcount := s.calm_modUsage t h (fun x => x.countUp s.unitBytes bytes) (fun _ => .inl rfl)
    exact State.calm_ite (hcount.trans (State.calm_evaluateQuota _ t h)) hcount

theorem State.calm_countDown (bytes : Nat) : s.calm (s.countDown t h bytes) := by
  unfold State.countDown
  split
  · exact s.calm_refl
  · have hcount := s.calm_modUsage t h (fun x => x.countDown s.unitBytes bytes) (fun _ => .inl rfl)
    exact State.calm_ite (hcount.trans (State.calm_evaluateQuota _ t h)) hcount

theorem State.calm_commitRecord (r : SnapshotRecord) : s.calm (s.commitRecord r) := by
  unfold State.commitRecord
  split
  · exact State.calm_ite
      ((s.calm_modUsage _ _ _ (fun _ => .inr rfl)).trans (State.calm_reviewQuota _ _ _)) s.calm_refl
  all_goals exact s.calm_refl

theorem State.calm_mergeRecord (r : SnapshotRecord) : s.calm (s.mergeRecord r) := by
  unfold State.mergeRecord
  split
  · exact State.calm_ite
      ((s.calm_modUsage _ _ _ (fun _ => .inr rfl)).trans (State.calm_evaluateQuota _ _ _))
      (s.calm_append _ rfl)
  all_goals exact s.calm_refl

theorem State.steady_commit (e : Readout) : s.steady (s.commit e) := by
  unfold State.commit
  split
  · exact (State.calm_foldl State.calm_commitRecord _ _).tosteady.trans (State.steady_modMeter _ _)
  · exact s.steady_modMeter _

theorem State.steady_mergeBack (e : Readout) : s.steady (s.mergeBack e) := by
  unfold State.mergeBack
  split
  · exact (State.calm_foldl State.calm_mergeRecord _ _).tosteady.trans (State.steady_modMeter _ _)
  · exact s.steady_modMeter _

theorem State.steady_answerRead (sender : Nat) (r : ReadRange) : s.steady (s.answerRead sender r) := by
  unfold State.answerRead
  split
  · split
    · exact (s.calm_post _ _ _).tosteady
    · exact (s.steady_modMeter _).trans (State.calm_post _ _ _ _).tosteady
    · exact (s.steady_modMeter _).trans (State.calm_post _ _ _ _).tosteady
  · split
    · exact (s.steady_modMeter _).trans (State.calm_post _ _ _ _).tosteady
    · exact (s.calm_post _ _ _).tosteady

end meter

/-! ### The Monitor -/

section monitor
variable (s : State) (t : TreeId)

theorem State.calm_setLight (l : Light)
    (hw : (s.tree t).watched → ({ s.tree t with light := l } : Tree).watched) : s.calm (s.setLight t l) :=
  s.calm_modTree t _ ⟨id, hw⟩ (Tree.holdsNoMore_of_homes rfl)

/-- A light state without a search or a verification, after one that searched nothing. -/
theorem State.calm_setLight_quiet (l : Light) (hnow : (s.tree t).light.isSearch = false)
    (hsearch : ∀ d, l ≠ .search d) (hverify : ∀ v, l ≠ .verify v) : s.calm (s.setLight t l) :=
  s.calm_setLight t l (fun hw => Tree.watched_quiet hsearch hverify (hw.2.1 hnow))

/-- A search goes on with the same halves. -/
theorem State.calm_setLight_search {d e : Search} (hnow : (s.tree t).light = .search d)
    (hhalf : e.testHalf = d.testHalf) (hrest : e.rest = d.rest) : s.calm (s.setLight t (.search e)) := by
  refine s.calm_setLight t _ (fun hw => ?_)
  obtain ⟨hsorted, hfree, hdark⟩ := hw.1 d hnow
  exact Tree.watched_search (d := e) rfl (by rw [hhalf, hrest]; exact hsorted)
    (by rw [hhalf, hrest]; exact hfree) (by rw [hhalf]; exact hdark)

/-- A verification goes on with the same record. -/
theorem State.calm_setLight_verify {v w : Verify} (hnow : (s.tree t).light = .verify v)
    (hhome : w.home = v.home) (hgen : w.generation = v.generation) :
    s.calm (s.setLight t (.verify w)) := by
  refine s.calm_setLight t _ (fun hw => ?_)
  obtain ⟨hfree, hheld⟩ := hw.2.2 v hnow
  exact Tree.watched_verify (v := w) rfl (hw.2.1 (by rw [hnow]; rfl)) (by rw [hhome]; exact hfree)
    (by rw [hhome, hgen]; exact hheld)

theorem State.setDark_light (f : HomeIdx → Option Bool) (l : Light) :
    (((s.setTestDark t f).setLight t l).tree t).light = l := by rw [State.tree_setLight_self]

theorem State.setDark_home (f : HomeIdx → Option Bool) (l : Light) (k : HomeIdx) :
    (((s.setTestDark t f).setLight t l).tree t).home k
      = { (s.tree t).home k with record := { ((s.tree t).home k).record with testDark := f k } } := by
  rw [State.tree_setLight_self, Tree.home_withLight, State.tree_setTestDark_self, Tree.home_mapHomes]

/-- The test_dark flags of a tree are set, and its light state with them. -/
theorem State.calm_setDark (f : HomeIdx → Option Bool) (l : Light)
    (hw : (s.tree t).watched → (((s.setTestDark t f).setLight t l).tree t).watched) :
    s.calm ((s.setTestDark t f).setLight t l) := by
  have htree : ((s.setTestDark t f).setLight t l).tree t = { (s.tree t).mapHomes (fun h x =>
      { x with record := { x.record with testDark := f h } }) with light := l } := by
    rw [State.tree_setLight_self, State.tree_setTestDark_self]
  have hother : ∀ v, v ≠ t → ((s.setTestDark t f).setLight t l).tree v = s.tree v := fun v hv => by
    rw [State.tree_setLight_other _ _ _ _ hv, State.tree_setTestDark_other _ _ _ _ hv]
  refine ⟨⟨⟨rfl, rfl, rfl, rfl, rfl, rfl, rfl, rfl, rfl⟩, id, fun v => ?_⟩, rfl, rfl, id, rfl,
    fun v => ?_⟩
  · by_cases hv : v = t
    · subst hv
      exact ⟨fun hp => by rw [htree]; exact hp, hw⟩
    · rw [hother v hv]; exact Tree.steady_refl _
  · by_cases hv : v = t
    · subst hv
      intro k x tag hx htag
      rw [State.setDark_home] at hx ⊢
      exact ⟨⟨x, hx, htag⟩, rfl⟩
    · rw [hother v hv]; exact Tree.holdsNoMore_refl _

theorem State.calm_setDark_quiet (l : Light) (hsearch : ∀ d, l ≠ .search d) (hverify : ∀ v, l ≠ .verify v) :
    s.calm ((s.setTestDark t (fun _ => none)).setLight t l) :=
  s.calm_setDark t _ l (fun _ => Tree.watched_quiet (by rw [State.setDark_light]; exact hsearch)
    (by rw [State.setDark_light]; exact hverify) (fun k => by rw [State.setDark_home]))

theorem State.calm_enterForeign (cause : AlarmCause) : s.calm (s.enterForeign t cause) :=
  (s.calm_setDark_quiet t _ (by simp) (by simp)).trans (State.calm_alarm _ _)

theorem State.calm_chooseHalf (clearStreak : Nat) (candidates : List HomeIdx)
    (hc : (s.tree t).watched → candidates.Pairwise (fun h k => h < k)
      ∧ ∀ h ∈ candidates, (s.record t h).state ≠ .free) :
    s.calm (s.chooseHalf t clearStreak candidates) := by
  refine s.calm_setDark t _ _ (fun hw => ?_)
  obtain ⟨hsorted, hfree⟩ := hc hw
  refine Tree.watched_search (State.setDark_light _ _ _ _) ?_ (fun k hk => ?_) (fun k => ?_)
  · rw [List.take_append_drop]; exact hsorted
  · rw [List.take_append_drop] at hk
    rw [State.setDark_home]; exact hfree k hk
  · rw [State.setDark_home]
    simp

theorem State.candidates_sorted : (s.candidates t).Pairwise (fun h k => h < k) :=
  allHomes_sorted.sublist List.filter_sublist

theorem State.candidates_not_free {h : HomeIdx} (hh : h ∈ s.candidates t) :
    (s.record t h).state ≠ .free := of_decide_eq_true (List.mem_filter.mp hh).2

theorem State.calm_enterSearch (cause : AlarmCause) : s.calm (s.enterSearch t cause) := by
  refine (s.calm_alarm _).trans (State.calm_ite (State.calm_enterForeign _ t _)
    (State.calm_chooseHalf _ t 0 _ (fun _ => ⟨s.candidates_sorted t, fun h hh => ?_⟩)))
  rw [State.alarm_record]
  exact s.candidates_not_free t hh

theorem State.calm_endSearch (h : HomeIdx)
    (hfree : (s.tree t).watched → (s.record t h).state ≠ .free) : s.calm (s.endSearch t h) := by
  refine (s.calm_setDark t _ _ (fun hw => ?_)).trans (State.calm_raise _ _)
  refine Tree.watched_verify (State.setDark_light _ _ _ _) (fun k => by rw [State.setDark_home]) ?_ ?_
  · rw [State.setDark_home]; exact hfree hw
  · rw [State.setDark_home]; rfl

theorem State.calm_judged (clearStreak : Nat) (left : List HomeIdx)
    (hc : (s.tree t).watched → left.Pairwise (fun h k => h < k)
      ∧ ∀ h ∈ left, (s.record t h).state ≠ .free) : s.calm (s.judged t clearStreak left) := by
  unfold State.judged
  split
  · exact s.calm_enterForeign t _
  · exact s.calm_endSearch t _ (fun hw => (hc hw).2 _ (List.mem_singleton.mpr rfl))
  · exact s.calm_chooseHalf t _ _ hc

theorem State.calm_keepClearStreak {d : Search} (hnow : (s.tree t).light = .search d) (lit : Bool) :
    s.calm (s.keepClearStreak t d lit) :=
  State.calm_ite (s.calm_setLight_search t hnow rfl rfl)
    (State.calm_ite (s.calm_setDark_quiet t _ (by simp) (by simp)) (s.calm_setLight_search t hnow rfl rfl))

theorem State.calm_searchReceiveEnd {d : Search} (hnow : (s.tree t).light = .search d) (round : Nat)
    (lit : Bool) : s.calm (s.searchReceiveEnd t d round lit) := by
  unfold State.searchReceiveEnd
  split
  · refine State.calm_ite (s.calm_judged t _ _ (fun hw => ?_)) (s.calm_keepClearStreak t hnow lit)
    obtain ⟨hsorted, hfree, -⟩ := hw.1 d hnow
    obtain ⟨hhalf, hrest, -⟩ := List.pairwise_append.mp hsorted
    cases lit
    · exact ⟨hhalf, fun h hh => hfree h (List.mem_append_left _ hh)⟩
    · exact ⟨hrest, fun h hh => hfree h (List.mem_append_right _ hh)⟩
  · exact State.calm_ite (s.calm_setLight_search t hnow rfl rfl) (s.calm_keepClearStreak t hnow lit)
  · exact s.calm_keepClearStreak t hnow lit

theorem State.calm_endVerify {v : Verify} (hnow : (s.tree t).light.isSearch = false) :
    s.calm (s.endVerify t v) := by
  refine State.calm_ite ((s.calm_raise _).trans (State.calm_enterForeign _ t _))
    ((s.calm_alarm _).trans (State.calm_setLight_quiet _ t _ ?_ (by simp) (by simp)))
  rw [State.alarm, State.post_tree]; exact hnow

theorem State.calm_verifyReceiveEnd {v : Verify} (hnow : (s.tree t).light = .verify v) (round : Nat)
    (lit : Bool) : s.calm (s.verifyReceiveEnd t v round lit) := by
  unfold State.verifyReceiveEnd
  split
  · exact s.calm_refl
  · exact State.calm_ite (State.calm_ite (s.calm_endVerify t (by rw [hnow]; rfl))
      (s.calm_setLight_verify t hnow rfl rfl)) s.calm_refl

theorem State.calm_monitorReceiveEnd (round : Nat) (lit : Bool) :
    s.calm (s.monitorReceiveEnd t round lit) := by
  unfold State.monitorReceiveEnd
  split
  · next streak hnow =>
    have hquiet : ∀ n, s.calm (s.setLight t (.clear n)) := fun n =>
      s.calm_setLight_quiet t _ (by rw [hnow]; rfl) (by simp) (by simp)
    exact State.calm_ite (State.calm_ite (s.calm_enterSearch t _) (hquiet _)) (hquiet _)
  · next d hnow => exact s.calm_searchReceiveEnd t hnow round lit
  · next v hnow => exact s.calm_verifyReceiveEnd t hnow round lit
  · exact s.calm_refl
  · exact s.calm_refl

variable (h : HomeIdx)

theorem State.calm_setScore (f : Nat → Nat) : s.calm (s.setScore t h f) := by
  unfold State.setScore
  split
  · exact s.calm_refl
  · next n _ =>
    have hscore := s.calm_modRecord t h (fun r => { r with rogueScore := some (f n) }) rfl rfl rfl
    exact State.calm_ite (hscore.trans (State.calm_raise _ _)) hscore

theorem State.calm_recordOutcome (generation : Nat) (o : SearchOutcome) :
    s.calm (s.recordOutcome t h generation o) := by
  unfold State.recordOutcome
  split
  · next v hnow => exact State.calm_ite (s.calm_setLight_verify t hnow rfl rfl) s.calm_refl
  all_goals exact s.calm_refl

theorem State.calm_searchQuench (generation : Nat) : s.calm (s.searchQuench t h generation) := by
  have hmoved : ∀ new timer cause o, s.calm (((s.changeState t h new timer cause).queueWord t
      (.darken h)).recordOutcome t h generation o) := fun new timer cause o =>
    ((s.calm_changeState t h _ _ _).trans (State.calm_queueWord _ t _)).trans
      (State.calm_recordOutcome _ t h generation o)
  unfold State.searchQuench
  dsimp only
  split
  · exact (hmoved _ _ _ _).trans (State.calm_alarmRelapseLimit _ t h)
  · exact (hmoved _ _ _ _).trans (State.calm_alarmRelapseLimit _ t h)
  · exact hmoved _ _ _ _
  · exact hmoved _ _ _ _
  · exact (((s.calm_modRecord t h _ rfl rfl rfl).trans (State.calm_queueWord _ t _)).trans
      (State.calm_recordOutcome _ t h generation _)).trans (State.calm_alarm _ _)
  · exact ((s.calm_queueWord t _).trans (State.calm_recordOutcome _ t h generation _)).trans
      (State.calm_alarm _ _)
  · exact s.calm_refl

theorem State.calm_undo (o : SearchOutcome) : s.calm (s.undo t h o) := by
  have hback : ∀ new timer cause, s.calm ((s.changeState t h new timer cause).queueWord t (.light h)) :=
    fun new timer cause => (s.calm_changeState t h _ _ _).trans (State.calm_queueWord _ t _)
  unfold State.undo
  split
  · exact hback _ _ _
  · exact hback _ _ _
  · exact hback _ _ _
  · exact hback _ _ _
  · exact s.calm_modRecord t h _ rfl rfl rfl
  · exact s.calm_refl

end monitor

/-! ### The tree side -/

section line
variable (s : State) (t : TreeId)

/-- A header sets at most the start round of a verification. -/
theorem Tree.watched_afterHeader {a b : Tree} {round : Nat} (words : List ControlWord)
    (hl : b.light = a.light.afterHeader round words) (hh : b.homes = a.homes) (hw : a.watched) :
    b.watched := by
  have hhome : ∀ k, b.home k = a.home k := fun k => by rw [Tree.home, Tree.home, hh]
  cases hlight : a.light with
  | verify v =>
    obtain ⟨hfree, hgen⟩ := hw.2.2 v hlight
    have hdark := hw.2.1 (by rw [hlight]; rfl)
    rw [hlight, Light.afterHeader] at hl
    split at hl
    · exact Tree.watched_verify hl (fun k => by rw [hhome]; exact hdark k) (by rw [hhome]; exact hfree)
        (by rw [hhome]; exact hgen)
    · exact Tree.watched_verify hl (fun k => by rw [hhome]; exact hdark k) (by rw [hhome]; exact hfree)
        (by rw [hhome]; exact hgen)
  | clear n | search d | foreign n | off =>
    rw [hlight, Light.afterHeader, ← hlight] at hl
    exact Tree.watched_mapHomes hl (fun k => by rw [hhome]; exact ⟨rfl, rfl, rfl⟩) hw

theorem State.calm_sendHeader : s.calm (s.sendHeader t) := by
  refine State.calm.trans (s.calm_modTree t _ ⟨fun hp => ?_, fun hw => ?_⟩ (Tree.holdsNoMore_of_homes rfl))
    (State.calm_emit _ _)
  · obtain ⟨hwords, hplans, htaken, -, hwindow⟩ := hp
    refine ⟨(wordsLeft_sublist _ _).length_le.trans hwords, ⟨?_, ?_⟩, htaken, Nat.sub_le _ _, hwindow⟩
    · exact (List.length_filter_le _ _).trans hplans.1
    · have := hplans.2
      rw [keepYoungest_two]
      simp
      omega
  · exact Tree.watched_afterHeader _ rfl rfl hw

theorem State.calm_refresh (h : HomeIdx) : s.calm (s.refresh t h) := by
  unfold State.refresh
  split
  · exact s.calm_queueWord t _
  · exact s.calm_refl

theorem State.steady_closeWindow (levels : List Int) : s.steady (s.closeWindow t levels) := by
  unfold State.closeWindow
  split
  · exact s.steady_refl
  · refine State.steady.trans ?_ (State.steady_meterReceiveEnd _ t _)
    refine State.steady.trans (State.calm.tosteady ?_) (State.calm_monitorReceiveEnd _ t _ _).tosteady
    refine s.calm_modTree_line t _ (fun hp => ?_) rfl rfl
    obtain ⟨hwords, hplans, htaken, hroom, -⟩ := hp
    exact ⟨hwords, hplans, htaken, hroom, fun w hw => by cases hw⟩

theorem State.calm_openWindow : s.calm (s.openWindow t) := by
  unfold State.openWindow
  refine s.calm_modTree_line t _ ?_ ?_ ?_
  · intro hp
    split
    · obtain ⟨hwords, hplans, htaken, hroom, -⟩ := hp
      exact ⟨hwords, ⟨hplans.1, List.length_erase_le.trans hplans.2⟩, htaken, hroom,
        fun w hw => by cases hw; exact Nat.zero_le _⟩
    · exact hp
  · split <;> rfl
  · split <;> rfl

theorem State.calm_setWindow (w : Window) (hw : (s.tree t).placed → w.settled ≤ w.plan.grants.length) :
    s.calm (s.setWindow t w) := by
  refine s.calm_modTree_line t _ (fun hp => ?_) rfl rfl
  have hsettled := hw hp
  obtain ⟨hwords, hplans, htaken, hroom, -⟩ := hp
  exact ⟨hwords, hplans, htaken, hroom, fun x hx => by cases hx; exact hsettled⟩

theorem State.calm_discardUp : s.calm (s.discardUp t) := s.calm_modTree_line t _ id rfl rfl

section arrival
variable (a : ArrivalRecord)

theorem State.calm_uplink (payload : List Byte) : s.calm (s.uplink a payload) := by
  unfold State.uplink
  split
  · exact State.calm_ite s.calm_refl (s.calm_emit _)
  · exact s.calm_discardUp _
  · exact s.calm_refl
  · exact s.calm_refl

theorem State.calm_keepLevel : s.calm (s.keepLevel a) := by
  unfold State.keepLevel
  split
  · exact s.calm_modRecord _ _ _ rfl rfl rfl
  · exact s.calm_refl

theorem State.calm_keepSilence : s.calm (s.keepSilence a) :=
  State.calm_ite (State.calm_ite (s.calm_modRecord _ _ _ rfl rfl rfl)
    (State.calm_ite (s.calm_changeState _ _ _ _ _) (s.calm_modRecord _ _ _ rfl rfl rfl))) s.calm_refl

theorem State.calm_retrim : s.calm (s.retrim a) := by
  unfold State.retrim State.retrimBy
  split
  · exact State.calm_ite
      ((s.calm_modHome _ _ _ rfl rfl rfl (heldAs_refl _)).trans (State.calm_queueWord _ _ _)) s.calm_refl
  all_goals exact s.calm_refl

theorem State.calm_keepReport : s.calm (s.keepReport a) := by
  unfold State.keepReport
  split
  · exact State.calm_ite (s.calm_modHome _ _ _ rfl rfl rfl (heldAs_refl _)) s.calm_refl
  all_goals exact s.calm_refl

theorem State.calm_scoreArrival : s.calm (s.scoreArrival a) := by
  unfold State.scoreArrival
  split
  · exact s.calm_setScore _ _ _
  · split
    · exact s.calm_setScore _ _ _
    · exact s.calm_refl
  all_goals exact s.calm_refl

theorem State.calm_meterArrival : s.calm (s.meterArrival a) := by
  unfold State.meterArrival
  split
  · exact s.calm_countUp _ _ _
  all_goals exact s.calm_refl

theorem State.calm_takeArrival (payload : List Byte) : s.calm (s.takeArrival a payload) :=
  State.calm_ite (s.calm_discardUp _)
    (((((((s.calm_uplink a payload).trans (State.calm_keepLevel _ a)).trans
      (State.calm_keepSilence _ a)).trans (State.calm_retrim _ a)).trans
      (State.calm_keepReport _ a)).trans (State.calm_scoreArrival _ a)).trans (State.calm_meterArrival _ a))

end arrival

/-- Reading on leaves the plan of a window and its settled grants alone. -/
theorem readOn_window (litLevel : Int) (w : Window) (light : ReplyLight) :
    (readOn litLevel t w light).1.plan = w.plan ∧ (readOn litLevel t w light).1.settled = w.settled := by
  unfold readOn
  dsimp only
  generalize (if w.replyBlind = true then
    stepsBefore (fun level => !decide (litLevel ≤ level)) light.levels else 0) = skipped
  split
  · exact ⟨rfl, rfl⟩
  · split
    · exact ⟨rfl, rfl⟩
    · split
      · split <;> exact ⟨rfl, rfl⟩
      · exact ⟨rfl, rfl⟩

end line

/-! ### The restart -/

section restart
variable (s : State) (t : TreeId)

theorem State.calm_restartRecord (h : HomeIdx) : s.calm (s.restartRecord t h) :=
  State.calm_ite s.calm_refl ((s.calm_handOffTiered t h _).trans (State.calm_changeState _ t h _ _ _))

theorem State.steady_restartReadout (e : Readout) : s.steady (s.restartReadout t e) := by
  unfold State.restartReadout
  split
  · exact s.steady_refl
  · split
    · split
      · exact s.steady_modMeter _
      · exact s.steady_mergeBack e
      · exact s.steady_refl
    · exact s.steady_refl

theorem State.steady_restartedTree :
    s.steady ((s.setTestDark t (fun _ => none)).modTree t Tree.restarted) := by
  rw [State.setTestDark, State.modTree_modTree]
  refine s.steady_modTree t _ ⟨fun hp => ?_, fun _ => Tree.watched_quiet (by simp [Tree.restarted])
    (by simp [Tree.restarted]) (fun k => ?_)⟩
  · obtain ⟨-, hplans, htaken, hroom, hwindow⟩ := hp
    refine ⟨?_, ⟨?_, hplans.2⟩, htaken, hroom, hwindow⟩
    · exact Nat.succ_le_of_lt (by decide)
    · simpa [Tree.restarted, Transmitter.restarted] using hplans.1
  · rw [Tree.home_restarted, Tree.home_mapHomes]

theorem State.steady_restartTree : s.steady (s.restartTree t) :=
  ((State.calm_foldl (fun s h => s.calm_restartRecord t h) s allHomes).tosteady.trans
    (State.steady_foldl (fun s e => s.steady_restartReadout t e) _ _)).trans
      (State.steady_restartedTree _ t)

end restart

end Sys2Proof.Machine
end

section
/-! SUPPORT. Each command as a calm or steady step; that every command completes, and that every step keeps
the chip's figures and the places of the trees. -/

namespace Sys2Proof.Machine

/-! ### The plan build -/

section build
variable (s : State)

theorem Home.afterBuild_record (x : Home) (pollEvery : Nat) (grant : Option Nat) :
    (x.afterBuild pollEvery grant).record.state = x.record.state
      ∧ (x.afterBuild pollEvery grant).record.generation = x.record.generation
      ∧ (x.afterBuild pollEvery grant).record.testDark = x.record.testDark
      ∧ (x.afterBuild pollEvery grant).usage = x.usage := by
  unfold Home.afterBuild
  split <;> exact ⟨rfl, rfl, rfl, rfl⟩

theorem Tree.setTestRound_homes (a : Tree) (round : Nat) : (a.setTestRound round).homes = a.homes := by
  unfold Tree.setTestRound
  repeat' split
  all_goals rfl

theorem Tree.steady_setTestRound (a : Tree) (round : Nat) : a.steady (a.setTestRound round) := by
  unfold Tree.setTestRound
  split
  · next d hd =>
    split
    · refine ⟨Tree.placed_push _ _, fun hw => ?_⟩
      obtain ⟨hsorted, hfree, hdark⟩ := hw.1 d hd
      exact Tree.watched_search rfl hsorted hfree hdark
    · exact a.steady_refl
    · exact a.steady_refl
  all_goals exact a.steady_refl

/-- A tree after a build, apart from the test round that the build may begin. -/
def State.builtTree (b : TreeBuild) : Tree :=
  let tr := s.tree b.tree
  let plan := s.planOf b
  { tr.mapHomes (fun h x => x.afterBuild s.cfg.pollEvery (plan.grantTo h)) with
      enrol := { tr.enrol with countdown := if b.call then s.cfg.callEvery else tr.enrol.counted }
      tx := { tr.tx with pendingPlans := keepYoungest 2 (tr.tx.pendingPlans ++ [plan]) }
      homePointer := Fin.ofNat 128
        (pointerAfter 128 tr.homePointer (s.allotmentOf b) (homeWants b.asks))
      marks := tr.marks ++ [Mark.mk plan.round (!tr.light.isClear) (s.leftDark b.tree)] }

theorem State.treeAfterBuild_eq (b : TreeBuild) :
    s.treeAfterBuild b = (s.builtTree b).setTestRound (s.planOf b).round := rfl

theorem State.builtTree_home (b : TreeBuild) (h : HomeIdx) : (s.builtTree b).home h
    = (s.home b.tree h).afterBuild s.cfg.pollEvery ((s.planOf b).grantTo h) :=
  Tree.home_mapHomes _ _ _

theorem State.builtTree_light (b : TreeBuild) : (s.builtTree b).light = (s.tree b.tree).light := rfl

theorem State.steady_treeAfterBuild (b : TreeBuild) : (s.tree b.tree).steady (s.treeAfterBuild b) := by
  rw [State.treeAfterBuild_eq]
  refine Tree.steady.trans ⟨fun hp => ?_, fun hw => ?_⟩ (Tree.steady_setTestRound _ _)
  · obtain ⟨hwords, hplans, htaken, hroom, hwindow⟩ := hp
    refine ⟨hwords, ⟨?_, hplans.2⟩, htaken, hroom, hwindow⟩
    have := hplans.1
    simp only [State.builtTree, keepYoungest_two, List.length_drop, List.length_append, List.length_singleton]
    omega
  · refine Tree.watched_mapHomes (s.builtTree_light b) (fun k => ?_) hw
    rw [State.builtTree_home]
    obtain ⟨hstate, hgen, hdark, -⟩ := Home.afterBuild_record (s.home b.tree k) s.cfg.pollEvery
      ((s.planOf b).grantTo k)
    exact ⟨hstate, hgen, hdark⟩

theorem State.treeAfterBuild_holds (b : TreeBuild) :
    (s.tree b.tree).holdsNoMore (s.treeAfterBuild b) := by
  rw [State.treeAfterBuild_eq]
  refine Tree.holdsNoMore.trans (fun k x tag hx htag => ?_)
    (Tree.holdsNoMore_of_homes (Tree.setTestRound_homes _ _))
  rw [State.builtTree_home] at hx ⊢
  obtain ⟨-, hgen, -, husage⟩ := Home.afterBuild_record (s.home b.tree k) s.cfg.pollEvery
    ((s.planOf b).grantTo k)
  rw [husage] at hx
  exact ⟨⟨x, hx, htag⟩, hgen⟩

/-- A tree after a plan build: built anew where a build was made for it, or as it stood. -/
theorem State.buildPlans_tree (t : TreeId) : s.buildPlans.tree t = s.tree t
    ∨ ∃ b ∈ s.division.builds, b.tree = t ∧ s.buildPlans.tree t = s.treeAfterBuild b := by
  have htree : s.buildPlans.tree t = match s.division.builds.find? (fun b => decide (b.tree = t)) with
      | some b => s.treeAfterBuild b
      | none => s.tree t := get_tabulate _ t
  cases hfind : s.division.builds.find? (fun b => decide (b.tree = t)) with
  | none =>
    rw [hfind] at htree
    exact .inl htree
  | some b =>
    rw [hfind] at htree
    have hb := List.find?_some (p := fun b : TreeBuild => decide (b.tree = t)) hfind
    exact .inr ⟨b, List.mem_of_find?_eq_some hfind, of_decide_eq_true hb, htree⟩

theorem State.calm_buildPlans : s.calm s.buildPlans := by
  refine ⟨⟨⟨rfl, rfl, rfl, rfl, rfl, rfl, rfl, rfl, rfl⟩, id, fun t => ?_⟩, rfl, rfl, id, rfl,
    fun t => ?_⟩
  · rcases s.buildPlans_tree t with hsame | ⟨b, -, rfl, hbuilt⟩
    · rw [hsame]; exact Tree.steady_refl _
    · rw [hbuilt]; exact s.steady_treeAfterBuild b
  · rcases s.buildPlans_tree t with hsame | ⟨b, -, rfl, hbuilt⟩
    · rw [hsame]; exact Tree.holdsNoMore_refl _
    · rw [hbuilt]; exact s.treeAfterBuild_holds b

end build

/-! ### The line -/

section line
variable (s : State)

/-- An entry changed in its place leaves the queue orderly where it does not go on the line, or goes on a
line that none is on. -/
theorem queueOrderly_replace {e new : TxEntry} {q : List TxEntry} (he : e ∈ q) (hclash : new.clashes < 16)
    (hline : new.onLine = false ∨ ∀ x ∈ q, x.onLine = false) (hq : queueOrderly q) :
    queueOrderly (replaceEntry e new q) := by
  obtain ⟨older, younger, rfl, hnot⟩ := List.eq_append_cons_of_mem he
  rw [replaceEntry_middle hnot]
  obtain ⟨hlen, hclashes, hone⟩ := hq
  refine ⟨by simpa using hlen, fun x hx => ?_, ?_⟩
  · rcases List.mem_append.mp hx with hx | hx
    · exact hclashes x (List.mem_append_left _ hx)
    · rcases List.mem_cons.mp hx with rfl | hx
      · exact hclash
      · exact hclashes x (List.mem_append_right _ (List.mem_cons_of_mem _ hx))
  · rcases hline with hoff | hnone
    · simp only [List.filter_append, List.filter_cons, hoff, Bool.false_eq_true, if_false,
        List.length_append] at hone ⊢
      split at hone
      · rw [List.length_cons] at hone; omega
      · exact hone
    · have holder : older.filter (fun e => e.onLine) = [] := by
        simpa using fun x hx => hnone x (List.mem_append_left _ hx)
      have hyounger : younger.filter (fun e => e.onLine) = [] := by
        simpa using fun x hx => hnone x (List.mem_append_right _ (List.mem_cons_of_mem _ hx))
      simp only [List.filter_append, List.filter_cons, holder, hyounger, List.nil_append]
      split <;> simp

theorem queueOrderly_erase (e : TxEntry) {q : List TxEntry} (hq : queueOrderly q) :
    queueOrderly (q.erase e) := by
  obtain ⟨hlen, hclash, hline⟩ := hq
  exact ⟨List.length_erase_le.trans hlen, fun x hx => hclash x (List.mem_of_mem_erase hx),
    ((List.erase_sublist).filter _).length_le.trans hline⟩

theorem State.calm_modBus (f : Bus → Bus) (hf : (f s.bus).chipState = s.bus.chipState
      ∧ (f s.bus).address = s.bus.address ∧ (f s.bus).managers = s.bus.managers
      ∧ (f s.bus).settings = s.bus.settings ∧ (f s.bus).helloCountdown = s.bus.helloCountdown
      ∧ (f s.bus).queue = s.bus.queue) : s.calm (s.modBus f) := by
  obtain ⟨hchip, haddress, hmanagers, hsettings, hhello, hqueue⟩ := hf
  refine s.calm_of_trees ⟨rfl, rfl, rfl, rfl, hchip, haddress, hmanagers, hsettings, hhello⟩ ?_ rfl rfl
  rw [State.modBus_bus, hqueue]
  exact id

theorem State.calm_clashAlarm (source : AlarmCause) : s.calm (s.clashAlarm source) :=
  State.calm_ite s.calm_refl (s.calm_post _ _ _)

theorem State.calm_clashEntry {e : TxEntry} (he : e ∈ s.bus.queue) : s.calm (s.clashEntry e) := by
  unfold State.clashEntry
  dsimp only
  split
  · exact ((s.calm_setQueue _ (queueOrderly_erase e)).trans (State.calm_modCounters _ _)).trans
      (State.calm_tell _ _ _)
  · next hfew => exact s.calm_setQueue _ (queueOrderly_replace he (Nat.not_le.mp hfew) (.inl rfl))

theorem Bus.sending_mem {b : Bus} {e : TxEntry} (he : b.sending = some e) : e ∈ b.queue :=
  List.mem_of_find?_eq_some he

theorem queueHead?_mem {q : List TxEntry} {e : TxEntry} (he : queueHead? q = some e) : e ∈ q := by
  rcases Option.or_eq_some_iff.mp he with h | ⟨-, h⟩
  · exact List.mem_of_find?_eq_some h
  · rcases Option.or_eq_some_iff.mp h with h | ⟨-, h⟩ <;> exact List.mem_of_find?_eq_some h

theorem State.calm_handOn (f : ShelfFrame) : s.calm (s.handOn f) := by
  unfold State.handOn
  split
  · exact s.calm_refl
  · refine State.calm_ite (s.calm_modCounters _) ?_
    split
    · exact (s.calm_modCounters _).trans (State.calm_raise _ _)
    · exact (s.calm_modCounters _).trans (State.calm_post _ _ _ _)

theorem State.calm_filterFrame (f : ShelfFrame) : s.calm (s.filterFrame f) := by
  unfold State.filterFrame
  split
  · split
    · exact State.calm_ite (s.calm_handOn f) s.calm_refl
    · exact State.calm_ite (s.calm_modCounters _) (s.calm_handOn f)
  · exact s.calm_refl

theorem State.calm_takeFrame (f : ShelfFrame) : s.calm (s.takeFrame f) :=
  State.calm_ite ((s.calm_modCounters _).trans (State.calm_clashAlarm _ _)) (s.calm_filterFrame f)

end line

/-! ### The commands -/

/-- Every command but those of a reset is what it makes of a state that is in none. -/
theorem exec_eq_whileUp (c : Instr) (hon : c ≠ .powerOnReset) (hpin : c ≠ .pinReset)
    (hend : ∀ straps, c ≠ .resetEnd straps) : ∃ f : State → State, ∀ s, exec c s = s.whileUp (f s) := by
  cases c with
  | powerOnReset => exact absurd rfl hon
  | pinReset => exact absurd rfl hpin
  | resetEnd straps => exact absurd rfl (hend straps)
  | _ => exact ⟨_, fun _ => rfl⟩

theorem State.steady_whileUp {s a u : State} (ha : s.steady a) (hu : s.whileUp a = .next u) :
    s.steady u := by
  cases hu
  split
  · exact s.steady_refl
  · exact ha

theorem State.calm_whileUp {s a u : State} (ha : s.calm a) (hu : s.whileUp a = .next u) : s.calm u := by
  cases hu
  split
  · exact s.calm_refl
  · exact ha

/-- Commands that set the chip's figures, or the readouts. -/
def setsFigures : Instr → Bool
  | .powerOnReset | .pinReset | .resetEnd _ | .roundOpening | .settings _ _ | .demandReceived _ _ _ _
  | .epochEnd | .helloCountdownExpiry => true
  | _ => false

/-- Commands that change the readouts or the marks, or the homes held in snapshots. -/
def setsReadouts : Instr → Bool
  | .roundReceiveEnd _ _ | .restart _ _ | .read _ _ _ _ _ | .confirm _ _ | .pickupWaitExpiry _
  | .confirmWaitExpiry _ => true
  | _ => false

/-- Reading the light of a discovery window on moves only the place it stands at. -/
theorem State.calm_readOn (s : State) {t : TreeId} {w : Window} (hw : (s.tree t).rx.window = some w)
    (light : ReplyLight) : s.calm (s.setWindow t (readOn s.cfg.litLevel t w light).1) := by
  refine s.calm_setWindow t _ (fun hp => ?_)
  obtain ⟨hplan, hsettled⟩ := readOn_window t s.cfg.litLevel w light
  rw [hplan, hsettled]
  exact hp.2.2.2.2 w hw

/-- A command that sets neither the chip's figures nor the readouts is a calm step; an enrolment takes a
FREE record without a usage entry. -/
theorem exec_calm {c : Instr} {s u : State} (hfigures : setsFigures c = false)
    (hreadouts : setsReadouts c = false)
    (hunused : (∃ t light, c = .discoveryReply t light) →
      ∀ v k, (s.record v k).state = .free → (s.home v k).usage = none)
    (hu : exec c s = .next u) : s.calm u := by
  cases c with
  | powerOnReset | pinReset | resetEnd _ | roundOpening | settings _ _ | demandReceived _ _ _ _
  | epochEnd | helloCountdownExpiry => cases hfigures
  | roundReceiveEnd _ _ | restart _ _ | read _ _ _ _ _ | confirm _ _ | pickupWaitExpiry _
  | confirmWaitExpiry _ => cases hreadouts
  | planBuild => exact State.calm_whileUp (State.calm_ite s.calm_buildPlans s.calm_refl) hu
  | roundHeader t =>
    exact State.calm_whileUp (State.calm_ite (((s.calm_sendHeader t).trans
      (State.calm_refresh _ t _)).trans (State.calm_refresh _ t _)) s.calm_refl) hu
  | arrival t light =>
    refine State.calm_whileUp ?_ hu
    split
    · exact s.calm_refl
    · split
      · exact s.calm_refl
      · next w hw _ g hg =>
        refine (s.calm_setWindow t _ (fun _ => ?_)).trans (State.calm_takeArrival _ _ _)
        exact (List.getElem?_eq_some_iff.mp hg).1
  | discoveryReply t light =>
    refine State.calm_whileUp ?_ hu
    split
    · exact s.calm_refl
    · next w hw =>
      split
      · have hread := s.calm_readOn hw light
        dsimp only
        split
        · refine hread.trans (State.calm_takeReply _ _ ?_)
          intro v k
          have hhome : (s.setWindow t (readOn s.cfg.litLevel t w light).1).home v k = s.home v k :=
            State.home_readTo _ _ _ _ _
          rw [State.record, hhome]
          exact hunused ⟨t, light, rfl⟩ v k
        · exact hread
      · exact s.calm_refl
  | downstreamFrame t h frame =>
    refine State.calm_whileUp ?_ hu
    split
    · exact s.calm_refl
    · next hroom =>
      split
      · next hdelivers =>
        refine (s.calm_modTree_line t _ (fun hp => ?_) rfl rfl).trans (State.calm_countDown _ t h _)
        obtain ⟨hwords, hplans, ⟨-, hsize⟩, hline, hwindow⟩ := hp
        refine ⟨hwords, hplans, ⟨?_, fun x hx => ?_⟩, hline, hwindow⟩
        · rw [List.length_append]
          exact Nat.not_le.mp hroom
        · rcases List.mem_append.mp hx with hx | hx
          · exact hsize x hx
          · rw [List.mem_singleton.mp hx]
            simp only [State.delivers, Bool.and_eq_true, decide_eq_true_eq] at hdelivers
            exact hdelivers.2
      · exact s.calm_modTree_line t _ id rfl rfl
  | lineIdle =>
    refine State.calm_whileUp ?_ hu
    have hidle := s.calm_modBus (fun b => { b with lineSeen := true, clashFrame := false })
      ⟨rfl, rfl, rfl, rfl, rfl, rfl⟩
    dsimp only
    split
    · next e hnone hhead =>
      refine hidle.trans (State.calm_setQueue _ _ (fun hq => ?_))
      have hmem := queueHead?_mem hhead
      exact queueOrderly_replace hmem (hq.2.1 e hmem)
        (.inr (fun x hx => by simpa using List.find?_eq_none.mp hnone x hx)) hq
    · exact hidle
  | contentionLost =>
    refine State.calm_whileUp ?_ hu
    split
    · exact s.calm_refl
    · next e he =>
      refine (s.calm_setQueue _ (fun hq => ?_)).trans (State.calm_modCounters _ _)
      exact queueOrderly_replace (Bus.sending_mem he) (hq.2.1 e (Bus.sending_mem he)) (.inl rfl) hq
  | addressClashSending =>
    refine State.calm_whileUp ?_ hu
    split
    · exact s.calm_refl
    · next e he =>
      exact (((s.calm_clashEntry (Bus.sending_mem he)).trans (State.calm_modCounters _ _)).trans
        (State.calm_modBus _ _ ⟨rfl, rfl, rfl, rfl, rfl, rfl⟩)).trans (State.calm_clashAlarm _ _)
  | frameSent =>
    refine State.calm_whileUp ?_ hu
    split
    · exact s.calm_refl
    · exact (((s.calm_setQueue _ (queueOrderly_erase _)).trans (State.calm_modCounters _ _)).trans
        (State.calm_emit _ _)).trans (State.calm_tell _ _ _)
  | frameReceived bits =>
    refine State.calm_whileUp (State.calm_ite ?_ s.calm_refl) hu
    have hidle := s.calm_modBus (fun b => { b with clashFrame := false }) ⟨rfl, rfl, rfl, rfl, rfl, rfl⟩
    dsimp only
    split
    · exact hidle.trans (State.calm_modCounters _ _)
    · exact State.calm_ite hidle (hidle.trans (State.calm_takeFrame _ _))
  | queryChip sender q =>
    exact State.calm_whileUp (State.calm_ite ((s.calm_take _).trans (State.calm_post _ _ _ _))
      (s.calm_take _)) hu
  | queryTree sender q =>
    refine State.calm_whileUp (State.calm_ite ?_ (s.calm_take _)) hu
    split <;> exact (s.calm_take _).trans (State.calm_post _ _ _ _)
  | queryHome sender q =>
    refine State.calm_whileUp (State.calm_ite ?_ (s.calm_take _)) hu
    split <;> exact (s.calm_take _).trans (State.calm_post _ _ _ _)
  | admission sender serial tier quota =>
    refine State.calm_whileUp (State.calm_ite ?_ (s.calm_take _)) hu
    refine (s.calm_take (.admission sender serial tier quota)).trans ?_
    split
    · split
      · exact State.calm_post _ _ _ _
      · exact State.calm_admitAt _ _ _ _ _ _ _
    · exact State.calm_post _ _ _ _
  | refuse sender serial =>
    refine State.calm_whileUp (State.calm_ite ?_ (s.calm_take _)) hu
    refine (s.calm_take (.refuse sender serial)).trans ?_
    split
    · exact State.calm_post _ _ _ _
    · exact (State.calm_refuseHome _ _ _).trans (State.calm_post _ _ _ _)
  | release sender serial =>
    refine State.calm_whileUp (State.calm_ite ?_ (s.calm_take _)) hu
    refine (s.calm_take (.release sender serial)).trans ?_
    split
    · exact State.calm_post _ _ _ _
    · exact State.calm_releaseHome _ _ _ _ _
  | dismiss sender serial =>
    refine State.calm_whileUp (State.calm_ite ?_ (s.calm_take _)) hu
    refine (s.calm_take (.dismiss sender serial)).trans ?_
    split
    · exact State.calm_post _ _ _ _
    · exact (State.calm_departWithDismiss _ _ _ _ _).trans (State.calm_post _ _ _ _)
  | claimReceived peer serial tree index =>
    refine State.calm_whileUp (State.calm_ite ?_ (s.calm_take _)) hu
    refine (s.calm_take (.claimReceived peer serial tree index)).trans ?_
    split
    · exact State.calm_answerClaim _ _ _ _ _ _ _
    · exact State.calm_refl _
  | objectReceived peer serial tree index =>
    refine State.calm_whileUp (State.calm_ite ?_ (s.calm_take _)) hu
    refine (s.calm_take (.objectReceived peer serial tree index)).trans ?_
    split
    · exact State.calm_answerObject _ _ _ _
    · exact State.calm_refl _
  | claimSentReport t h generation =>
    exact State.calm_whileUp (State.calm_ite
      ((s.calm_take _).trans (State.calm_modRecord _ t h _ rfl rfl rfl)) (s.calm_take _)) hu
  | claimDroppedReport t h generation =>
    exact State.calm_whileUp (State.calm_ite
      ((s.calm_take _).trans (State.calm_freeWithDismiss _ t h _)) (s.calm_take _)) hu
  | scoreQuenchRequest t h generation =>
    exact State.calm_whileUp (State.calm_ite (((s.calm_take _).trans
      (State.calm_changeState _ t h _ _ _)).trans (State.calm_queueWord _ t _)) (s.calm_take _)) hu
  | searchQuenchRequest t h generation =>
    exact State.calm_whileUp (State.calm_ite
      ((s.calm_take _).trans (State.calm_searchQuench _ t h _)) (s.calm_take _)) hu
  | undoRequest t h generation outcome refuseNoted =>
    refine State.calm_whileUp (State.calm_ite ?_ (s.calm_take _)) hu
    refine (s.calm_take (.undoRequest t h generation outcome refuseNoted)).trans ?_
    split
    · exact State.calm_undo _ t h _
    · exact State.calm_refl _
  | claimWaitExpiry t h =>
    exact State.calm_whileUp (State.calm_ite
      ((s.calm_changeState t h _ _ _).trans (State.calm_post _ _ _ _)) s.calm_refl) hu
  | admitWaitExpiry t h =>
    exact State.calm_whileUp (State.calm_ite (s.calm_freeWithDismiss t h _) s.calm_refl) hu
  | barHoldExpiry t h =>
    exact State.calm_whileUp (State.calm_ite (s.calm_freeWithDismiss t h _) s.calm_refl) hu
  | lostHoldExpiry t h =>
    exact State.calm_whileUp (State.calm_ite (s.calm_departWithDismiss t h _ _) s.calm_refl) hu
  | quenchHoldExpiry t h =>
    exact State.calm_whileUp (State.calm_ite ((s.calm_changeState t h _ _ _).trans
      (State.calm_queueWord _ t _)) s.calm_refl) hu
  | trimHoldEnd t h =>
    exact State.calm_whileUp (State.calm_ite
      (s.calm_modHome t h _ rfl rfl rfl (heldAs_refl _)) s.calm_refl) hu
  | foreignTimerExpiry t =>
    refine State.calm_whileUp ?_ hu
    split
    · next hlight =>
      refine State.calm_ite (s.calm_enterSearch t _)
        (s.calm_setLight_quiet t _ (by rw [hlight]; rfl) (by simp) (by simp))
    · exact s.calm_refl
  | takenFrameSent t =>
    refine State.calm_whileUp ?_ hu
    split
    · exact s.calm_refl
    · next f rest htaken =>
      refine State.calm_ite ((s.calm_modTree_line t _ (fun hp => ?_) rfl rfl).trans
        (State.calm_emit _ _)) s.calm_refl
      obtain ⟨hwords, hplans, ⟨hlen, hsize⟩, hroom, hwindow⟩ := hp
      rw [htaken] at hlen hsize
      refine ⟨hwords, hplans, ⟨?_, fun x hx => hsize x (List.mem_cons_of_mem _ hx)⟩,
        (Nat.sub_le _ _).trans hroom, hwindow⟩
      exact (Nat.le_succ _).trans hlen

/-- A command that sets none of the chip's figures is a steady step. -/
theorem exec_steady {c : Instr} {s u : State} (hfigures : setsFigures c = false)
    (hu : exec c s = .next u) : s.steady u := by
  cases c with
  | roundReceiveEnd t levels =>
    refine State.steady_whileUp ?_ hu
    split
    · exact ((s.steady_closeWindow t levels).trans (State.calm_openWindow _ t).tosteady).trans
        (State.calm_modTree_line _ t _ id rfl rfl).tosteady
    · exact s.steady_refl
  | discoveryReply t light =>
    refine State.steady_whileUp ?_ hu
    split
    · exact s.steady_refl
    · next w hw =>
      split
      · have hread := (s.calm_readOn hw light).tosteady
        dsimp only
        split
        · exact hread.trans (State.steady_takeReply _ _)
        · exact hread
      · exact s.steady_refl
  | restart sender tree =>
    refine State.steady_whileUp ?_ hu
    have htake := (s.calm_take (.restart sender tree)).tosteady
    split
    · refine htake.trans ?_
      dsimp only
      split
      · split
        · exact (State.steady_restartTree _ _).trans (State.calm_post _ _ _ _).tosteady
        · exact (State.calm_post _ _ _ _).tosteady
      · exact (State.calm_post _ _ _ _).tosteady
    · exact htake
  | read sender kind tree first count =>
    refine State.steady_whileUp ?_ hu
    have htake := (s.calm_take (.read sender kind tree first count)).tosteady
    split
    · refine htake.trans ?_
      dsimp only
      split
      · exact State.steady_answerRead _ _ _
      · exact (State.calm_post _ _ _ _).tosteady
    · exact htake
  | confirm sender tag =>
    refine State.steady_whileUp ?_ hu
    have htake := (s.calm_take (.confirm sender tag)).tosteady
    split
    · refine htake.trans ?_
      dsimp only
      split
      · exact (State.steady_commit _ _).trans (State.calm_post _ _ _ _).tosteady
      · exact (State.calm_post _ _ _ _).tosteady
    · exact htake
  | pickupWaitExpiry tag =>
    refine State.steady_whileUp ?_ hu
    split
    · exact (s.steady_modMeter _).trans (State.steady_mergeBack _ _)
    · exact s.steady_refl
  | confirmWaitExpiry tag =>
    refine State.steady_whileUp ?_ hu
    split
    · exact s.steady_mergeBack _
    · exact s.steady_refl
  | _ =>
    exact (exec_calm hfigures rfl (fun ⟨t, light, h⟩ => by cases h) hu).tosteady

end Sys2Proof.Machine
end

section
/-! SUPPORT. The commands that set the chip's figures, and the statements O54, O55 and O56. -/

namespace Sys2Proof.Machine

/-! ### Every command completes -/

theorem State.whileUp_cases {s a u : State} (hu : s.whileUp a = .next u) : u = s ∨ u = a := by
  cases hu
  split
  · exact .inl rfl
  · exact .inr rfl

theorem exec_next (c : Instr) (s : State) : ∃ u, exec c s = .next u := by
  by_cases hreset : c = .powerOnReset ∨ c = .pinReset ∨ ∃ straps, c = .resetEnd straps
  · rcases hreset with rfl | rfl | ⟨straps, rfl⟩
    · exact ⟨_, rfl⟩
    · exact ⟨_, rfl⟩
    · cases hs : s.inReset with
      | none => exact ⟨s, by simp only [exec, execResetEnd, hs]⟩
      | some cause => exact ⟨_, exec_resetEnd straps hs⟩
  · simp only [not_or, not_exists] at hreset
    obtain ⟨f, hf⟩ := exec_eq_whileUp c hreset.1 hreset.2.1 hreset.2.2
    exact ⟨_, hf s⟩

theorem exec_pending {c : Instr} {s u : State} (hu : exec c s = .next u) : u.pending = s.pending := by
  cases hfigures : setsFigures c with
  | false => exact (exec_steady hfigures hu).figures.pending
  | true =>
    cases c with
    | powerOnReset => cases hu; rfl
    | pinReset => cases hu; split <;> rfl
    | resetEnd straps =>
      cases hs : s.inReset with
      | none => simp only [exec, execResetEnd, hs] at hu; cases hu; rfl
      | some cause => rw [exec_resetEnd straps hs] at hu; cases hu; rfl
    | roundOpening => rcases State.whileUp_cases hu with rfl | rfl <;> rfl
    | settings sender raw =>
      rcases State.whileUp_cases hu with rfl | rfl
      · rfl
      · dsimp only
        split
        · split
          · simp [State.acceptSettings, State.postHello, State.enterRunning]
          · simp
        · rfl
    | demandReceived peer committed excess homes =>
      rcases State.whileUp_cases hu with rfl | rfl
      · rfl
      · dsimp only
        split <;> rfl
    | epochEnd =>
      rcases State.whileUp_cases hu with rfl | rfl
      · rfl
      · split
        · exact State.post_pending _ _ _ _
        · rfl
    | helloCountdownExpiry =>
      rcases State.whileUp_cases hu with rfl | rfl
      · rfl
      · split
        · exact State.post_pending _ _ _ _
        · rfl
    | _ => cases hfigures

/-- Settles O54: every command answers a next state, and it leaves the commands that wait alone. -/
theorem everyCommandCompletes : Obligations.EveryCommandCompletes := by
  refine ⟨fun s c => ?_, fun s c hreset hon hpin hend => ?_⟩
  · obtain ⟨u, hu⟩ := exec_next c s
    exact ⟨u, hu, exec_pending hu⟩
  · obtain ⟨f, hf⟩ := exec_eq_whileUp c hon hpin hend
    obtain ⟨cause, hcause⟩ := Option.ne_none_iff_exists'.mp hreset
    rw [hf]
    exact State.whileUp_inReset hcause _

/-! ### The commands that set figures -/

section trees
variable (s : State)

theorem State.steady_beginReset_tree (cause : ResetCause) (t : TreeId) :
    (s.tree t).steady ((s.beginReset cause).tree t) := by
  have htree : (s.beginReset cause).tree t
      = { s.tree t with tx := { (s.tree t).tx with taken := [] } } := State.tree_mapTrees _ _ t
  rw [htree]
  refine Tree.steady_of_homes (fun hp => ?_) rfl rfl
  obtain ⟨hwords, hplans, -, hroom, hwindow⟩ := hp
  exact ⟨hwords, hplans, ⟨Nat.zero_le _, fun f hf => by cases hf⟩, hroom, hwindow⟩

theorem State.openRound_tree (t : TreeId) :
    s.openRound.tree t = (s.tree t).atOpening (roundAdd s.round 1) (s.enabled t) := get_tabulate _ t

theorem Tree.atOpening_home (a : Tree) (round : Nat) (enabled : Bool) (h : HomeIdx) :
    (a.atOpening round enabled).home h = (a.home h).atOpening := Tree.home_mapHomes _ _ h

theorem Tree.steady_atOpening (a : Tree) (round : Nat) (enabled : Bool) :
    a.steady (a.atOpening round enabled) := by
  refine ⟨fun hp => ?_, fun hw => ?_⟩
  · obtain ⟨hwords, hplans, htaken, -, hwindow⟩ := hp
    exact ⟨hwords, hplans, htaken, Nat.zero_le _, hwindow⟩
  · have hhome : ∀ k, ((a.atOpening round enabled).home k).record.state = (a.home k).record.state
        ∧ ((a.atOpening round enabled).home k).record.generation = (a.home k).record.generation
        ∧ ((a.atOpening round enabled).home k).record.testDark = (a.home k).record.testDark := fun k => by
      rw [Tree.atOpening_home]; exact ⟨rfl, rfl, rfl⟩
    cases hl : a.light with
    | foreign n =>
      have hlight : (a.atOpening round enabled).light = .foreign (n - 1) := by
        rw [Tree.atOpening, hl]; rfl
      exact Tree.watched_quiet (by simp [hlight]) (by simp [hlight])
        (fun k => (hhome k).2.2.trans (hw.2.1 (by rw [hl]; rfl) k))
    | clear n | search d | verify v | off =>
      refine Tree.watched_mapHomes ?_ hhome hw
      rw [Tree.atOpening, hl]
      rfl

end trees

/-! ### The places -/

/-- A step of the queue carries out a command on the state with the rest of the queue, or idles. -/
theorem step_cases {s u : State} (hu : step s = .next u) : u = s
    ∨ ∃ c rest, s.pending = c :: rest ∧ exec c { s with pending := rest } = .next u := by
  unfold step at hu
  split at hu
  · cases hu; exact .inl rfl
  · next c rest hpending => exact .inr ⟨c, rest, hpending, hu⟩

/-- Every command but the end of a reset and SETTINGS keeps the places and the watch of each tree. -/
theorem exec_tree_steady {c : Instr} {s u : State} (hend : ∀ straps, c ≠ .resetEnd straps)
    (hsettings : ∀ sender raw, c ≠ .settings sender raw) (hu : exec c s = .next u) (t : TreeId) :
    (s.tree t).steady (u.tree t) := by
  cases hfigures : setsFigures c with
  | false => exact (exec_steady hfigures hu).trees t
  | true =>
    cases c with
    | powerOnReset => cases hu; exact s.steady_beginReset_tree _ t
    | pinReset =>
      cases hu
      split
      · exact Tree.steady_refl _
      · exact s.steady_beginReset_tree _ t
    | resetEnd straps => exact absurd rfl (hend straps)
    | settings sender raw => exact absurd rfl (hsettings sender raw)
    | roundOpening =>
      rcases State.whileUp_cases hu with rfl | rfl
      · exact Tree.steady_refl _
      · rw [State.openRound_tree]; exact Tree.steady_atOpening _ _ _
    | demandReceived peer committed excess homes =>
      rcases State.whileUp_cases hu with rfl | rfl
      · exact Tree.steady_refl _
      · dsimp only
        split <;> exact Tree.steady_refl _
    | epochEnd =>
      rcases State.whileUp_cases hu with rfl | rfl
      · exact Tree.steady_refl _
      · split
        · rw [State.endEpoch, State.post_tree]; exact Tree.steady_refl _
        · exact Tree.steady_refl _
    | helloCountdownExpiry =>
      rcases State.whileUp_cases hu with rfl | rfl
      · exact Tree.steady_refl _
      · split
        · rw [State.modBus_tree, State.postHello, State.post_tree]; exact Tree.steady_refl _
        · exact Tree.steady_refl _
    | _ => cases hfigures

/-- A tree once SETTINGS is accepted: CLEAR where it is enabled. -/
theorem State.acceptSettings_tree (s : State) (sender : Nat) (raw : Settings) (t : TreeId) :
    (s.acceptSettings sender raw).tree t = if (clampSettings raw).enabled.getLsbD t then
      { s.tree t with light := .clear 0 } else s.tree t := by
  rw [State.acceptSettings, State.postHello, State.post_tree, State.post_tree]
  exact get_tabulate _ t

theorem exec_settings_cases {s u : State} {sender : Nat} {raw : Settings}
    (hu : exec (.settings sender raw) s = .next u) : s.calm u
      ∨ (s.inReset = none ∧ s.bus.chipState = .waitingSettings ∧ sender ≠ s.bus.address ∧ sender ≤ 30
        ∧ u = (s.take (.settings sender raw)).acceptSettings sender raw) := by
  cases hreset : s.inReset with
  | some cause =>
    have hsame := State.whileUp_inReset hreset
      (if s.hears sender && decide (sender ≤ 30) then
        match s.bus.chipState with
        | .waitingSettings => (s.take (.settings sender raw)).acceptSettings sender raw
        | .running => (s.take (.settings sender raw)).post .bus sender
            (.declined .settings .locked (s.take (.settings sender raw)).bus.settings)
       else s.take (.settings sender raw))
    cases hsame.symm.trans hu
    exact .inl s.calm_refl
  | none =>
    rw [exec_settings raw hreset] at hu
    cases hu
    split
    · next hheard =>
      split
      · next hwaiting =>
        simp only [State.hears, Bool.and_eq_true, decide_eq_true_eq] at hheard
        exact .inr ⟨rfl, hwaiting, hheard.1, hheard.2, rfl⟩
      · exact .inl ((s.calm_take _).trans (State.calm_post _ _ _ _))
    · exact .inl (s.calm_take _)

theorem exec_places {c : Instr} {s u : State} (hi : PlacesInv s) (hu : exec c s = .next u) :
    PlacesInv u := by
  rw [placesInv_iff] at hi
  by_cases hend : ∃ straps, c = .resetEnd straps
  · obtain ⟨straps, rfl⟩ := hend
    cases hs : s.inReset with
    | none =>
      simp only [exec, execResetEnd, hs] at hu
      cases hu
      exact (placesInv_iff s).mpr hi
    | some cause =>
      rw [exec_resetEnd straps hs] at hu
      cases hu
      exact placesInv_resetTo _ _ _ _
  · by_cases hsettings : ∃ sender raw, c = .settings sender raw
    · obtain ⟨sender, raw, rfl⟩ := hsettings
      rw [placesInv_iff]
      rcases exec_settings_cases hu with hcalm | ⟨-, -, -, -, rfl⟩
      · exact fun t => (hcalm.trees t).places (hi t)
      · intro t
        rw [State.acceptSettings_tree]
        split
        · exact hi t
        · exact hi t
    · rw [placesInv_iff]
      exact fun t => (exec_tree_steady (fun straps h => hend ⟨straps, h⟩)
        (fun sender raw h => hsettings ⟨sender, raw, h⟩) hu t).places (hi t)

/-- Settles O56: each command keeps each tree to its places. -/
theorem everyStepKeepsThePlaces : Obligations.EveryStepKeepsThePlaces := by
  intro s u hi hu
  rcases step_cases hu with rfl | ⟨c, rest, -, hexec⟩
  · exact hi
  · exact exec_places (s := { s with pending := rest }) ((placesInv_iff _).mpr ((placesInv_iff s).mp hi)) hexec


/-! ### The chip's figures -/

theorem State.sameFigures.cfg {s u : State} (h : s.sameFigures u) : u.cfg = s.cfg := by
  rw [State.cfg, State.cfg, h.settings]

theorem State.sameFigures.chipMax {s u : State} (h : s.sameFigures u) : u.chipMax = s.chipMax := by
  rw [State.chipMax, State.chipMax, h.cfg]

theorem ChipInv.orderly {s : State} (hi : ChipInv s) : queueOrderly s.bus.queue :=
  ⟨hi.queuePlaces, hi.clashes, hi.oneOnLine⟩

/-- The chip's bounds rest on its figures and on the order of its transmit queue. -/
theorem ChipInv.of_figures {s u : State} (hi : ChipInv s) (hf : s.sameFigures u)
    (hq : queueOrderly u.bus.queue) : ChipInv u where
  round := by rw [hf.round]; exact hi.round
  queuePlaces := hq.1
  clashes := hq.2.1
  oneOnLine := hq.2.2
  address := by rw [hf.address]; exact hi.address
  managers := by rw [hf.managers, hf.address]; exact hi.managers
  epoch := by rw [hf.share]; exact hi.epoch
  peers := by rw [hf.share, hf.address, hf.chipMax]; exact hi.peers
  share := by rw [hf.share, hf.cfg, hf.chipMax]; exact hi.share
  own := by rw [hf.share, hf.chipMax]; exact hi.own
  waiting := by
    rw [hf.chipState, hf.settings, hf.managers, hf.share, hf.helloCountdown]; exact hi.waiting
  running := by rw [hf.chipState, hf.settings, hf.managers, hf.helloCountdown]; exact hi.running

theorem ChipInv.steady {s u : State} (hi : ChipInv s) (h : s.steady u) : ChipInv u :=
  hi.of_figures h.figures (h.queue hi.orderly)

section figures
variable {s : State}

theorem ChipInv.beginReset (hi : ChipInv s) (cause : ResetCause) : ChipInv (s.beginReset cause) where
  round := hi.round
  queuePlaces := Nat.zero_le _
  clashes := fun e he => by cases he
  oneOnLine := Nat.zero_le _
  address := hi.address
  managers := hi.managers
  epoch := hi.epoch
  peers := hi.peers
  share := hi.share
  own := hi.own
  waiting := hi.waiting
  running := hi.running

theorem ChipInv.openRound (hi : ChipInv s) : ChipInv s.openRound where
  round := Nat.mod_lt _ (by decide)
  queuePlaces := hi.queuePlaces
  clashes := hi.clashes
  oneOnLine := hi.oneOnLine
  address := hi.address
  managers := hi.managers
  epoch := by
    have hepoch := hi.epoch
    change (s.share.atOpening s.running).epoch < 32
    unfold ShareUnit.atOpening
    split
    · exact Nat.mod_lt _ (by decide)
    · exact hepoch
  peers := by
    have hsame : (s.share.atOpening s.running).peers = s.share.peers := by
      unfold ShareUnit.atOpening; split <;> rfl
    have hpeers := hi.peers
    rw [← hsame] at hpeers
    exact hpeers
  share := by
    have hsame : (s.share.atOpening s.running).share = s.share.share := by
      unfold ShareUnit.atOpening; split <;> rfl
    have hshare := hi.share
    rw [← hsame] at hshare
    exact hshare
  own := by
    have hsame : (s.share.atOpening s.running).own = s.share.own := by
      unfold ShareUnit.atOpening; split <;> rfl
    have hown := hi.own
    rw [← hsame] at hown
    exact hown
  waiting := fun hwaiting => by
    obtain ⟨hsettings, hmanagers, hpeers, hown, hshare, hhello⟩ := hi.waiting hwaiting
    have hidle : s.share.atOpening s.running = s.share := if_neg (by
      have hstate : s.bus.chipState = .waitingSettings := hwaiting
      simp [State.running, hstate])
    refine ⟨hsettings, hmanagers, ?_, ?_, ?_, ?_⟩
    · exact (congrArg ShareUnit.peers hidle).trans hpeers
    · exact (congrArg ShareUnit.own hidle).trans hown
    · exact (congrArg ShareUnit.share hidle).trans hshare
    · change (tick s.bus.helloCountdown).any _ = true
      cases hcount : s.bus.helloCountdown with
      | none => rw [hcount] at hhello; exact hhello
      | some n =>
        rw [hcount] at hhello
        simp only [tick, Option.map_some, Option.any_some, decide_eq_true_eq] at hhello ⊢
        omega
  running := fun hrunning => by
    obtain ⟨hsettings, hmanagers, hhello⟩ := hi.running hrunning
    refine ⟨hsettings, hmanagers, ?_⟩
    change tick s.bus.helloCountdown = none
    rw [hhello]
    rfl

theorem initialShare_le (c : Settings) : initialShare c ≤ c.capacity ∧ initialShare c ≤ chipMaxOf c.enabled :=
  ⟨(Nat.min_le_right _ _).trans (Nat.div_le_self _ _), Nat.min_le_left _ _⟩

theorem managersOf_spec {sender second address : Nat} (hle : sender ≤ 30) (hother : sender ≠ address) :
    (managersOf sender second address).Nodup ∧ (managersOf sender second address).length ≤ 2
      ∧ (∀ m ∈ managersOf sender second address, m ≤ 30 ∧ m ≠ address)
      ∧ managersOf sender second address ≠ [] := by
  unfold managersOf
  split
  · next h =>
    obtain ⟨hsecond, haddress, hsender⟩ := h
    refine ⟨by simp [Ne.symm hsender], Nat.le_refl 2, fun m hm => ?_, by simp⟩
    rcases List.mem_cons.mp hm with rfl | hm
    · exact ⟨hle, hother⟩
    · rw [List.mem_singleton.mp hm]; exact ⟨hsecond, haddress⟩
  · refine ⟨by simp, (by decide : 1 ≤ 2), fun m hm => ?_, by simp⟩
    rw [List.mem_singleton.mp hm]; exact ⟨hle, hother⟩

theorem ChipInv.enterRunning (hi : ChipInv s) {sender : Nat} {c : Settings} (hc : settingsInRange c)
    (hwaiting : s.bus.chipState = .waitingSettings) (hother : sender ≠ s.bus.address) (hle : sender ≤ 30) :
    ChipInv (s.enterRunning sender c) := by
  obtain ⟨-, -, hpeers, hown, -, -⟩ := hi.waiting hwaiting
  obtain ⟨hnodup, hlength, hstations, hsome⟩ := managersOf_spec (second := c.secondManager) hle hother
  obtain ⟨hshare, hmax⟩ := initialShare_le c
  exact {
    round := hi.round
    queuePlaces := hi.queuePlaces
    clashes := hi.clashes
    oneOnLine := hi.oneOnLine
    address := hi.address
    managers := ⟨hnodup, hlength, hstations⟩
    epoch := (by decide : 0 < 32)
    peers := by
      change (s.share.peers.map Peer.address).Nodup ∧ s.share.peers.length ≤ 30
        ∧ ∀ p ∈ s.share.peers, _
      rw [hpeers]
      exact ⟨List.nodup_nil, Nat.zero_le _, fun p hp => by cases hp⟩
    share := ⟨hshare, hmax⟩
    own := fun d hd => by
      have : s.share.own = some d := hd
      rw [hown] at this
      cases this
    waiting := fun hrunning => by cases hrunning
    running := fun _ => ⟨⟨c, rfl, hc⟩, hsome, rfl⟩ }

theorem refreshPeer_addresses (chipMax address c e : Nat) (peers : List Peer) :
    (refreshPeer chipMax address c e peers).map Peer.address
      = if address ∈ peers.map Peer.address then peers.map Peer.address
        else peers.map Peer.address ++ [address] := by
  by_cases hheld : address ∈ peers.map Peer.address
  · rw [if_pos hheld]
    obtain ⟨p, hp, haddress⟩ := List.mem_map.mp hheld
    have hany : peers.any (fun p => decide (p.address = address)) = true :=
      List.any_eq_true.mpr ⟨p, hp, decide_eq_true haddress⟩
    rw [refreshPeer, if_pos hany, List.map_map]
    refine List.map_congr_left fun q _ => ?_
    rw [Function.comp_apply]
    split
    · next h => exact h.symm
    · rfl
  · rw [if_neg hheld, refreshPeer_new fun p hp h => hheld (List.mem_map.mpr ⟨p, hp, h⟩)]
    simp

/-- Distinct stations of the shelf other than the chip's own are at most thirty. -/
theorem stations_le {own : Nat} {l : List Nat} (hown : own ≤ 30) (hnodup : l.Nodup)
    (hl : ∀ a ∈ l, a ≤ 30 ∧ a ≠ own) : l.length ≤ 30 := by
  have hnodup' : (own :: l).Nodup := List.nodup_cons.mpr ⟨fun h => (hl own h).2 rfl, hnodup⟩
  have hsub : (own :: l) ⊆ List.range 31 := fun a ha => by
    rw [List.mem_range]
    rcases List.mem_cons.mp ha with rfl | ha
    · omega
    · have := (hl a ha).1; omega
  have := (hnodup'.subperm hsub).length_le
  simp at this
  omega

theorem mem_refreshPeer {chipMax address c e : Nat} {peers : List Peer} {p : Peer}
    (hp : p ∈ refreshPeer chipMax address c e peers) : p ∈ peers
      ∨ p = { address := address, committed := min c chipMax, excess := min e chipMax, age := 0 } := by
  unfold refreshPeer at hp
  dsimp only at hp
  split at hp
  · obtain ⟨q, hq, rfl⟩ := List.mem_map.mp hp
    split
    · exact .inr rfl
    · exact .inl hq
  · rcases List.mem_append.mp hp with hp | hp
    · exact .inl hp
    · exact .inr (List.mem_singleton.mp hp)

theorem ChipInv.refresh (hi : ChipInv s) {peer c e : Nat} (hrunning : s.running = true)
    (hother : peer ≠ s.bus.address) (hle : peer ≤ 30) :
    ChipInv { s with share := { s.share with peers := refreshPeer s.chipMax peer c e s.share.peers } } := by
  obtain ⟨hnodup, hlength, hpeers⟩ := hi.peers
  have haddresses : ∀ a ∈ (refreshPeer s.chipMax peer c e s.share.peers).map Peer.address,
      a ≤ 30 ∧ a ≠ s.bus.address := fun a ha => by
    obtain ⟨p, hp, rfl⟩ := List.mem_map.mp ha
    rcases mem_refreshPeer hp with hp | rfl
    · exact ⟨(hpeers p hp).1, (hpeers p hp).2.1⟩
    · exact ⟨hle, hother⟩
  have hnodup' : ((refreshPeer s.chipMax peer c e s.share.peers).map Peer.address).Nodup := by
    rw [refreshPeer_addresses]
    split
    · exact hnodup
    · next hnew =>
      exact List.nodup_append.mpr ⟨hnodup, by simp, fun a ha b hb => by
        rw [List.mem_singleton.mp hb]; exact fun h => hnew (h ▸ ha)⟩
  exact {
    round := hi.round
    queuePlaces := hi.queuePlaces
    clashes := hi.clashes
    oneOnLine := hi.oneOnLine
    address := hi.address
    managers := hi.managers
    epoch := hi.epoch
    peers := by
      refine ⟨hnodup', ?_, fun p hp => ?_⟩
      · have := stations_le hi.address hnodup' haddresses
        rwa [List.length_map] at this
      · rcases mem_refreshPeer hp with hp | rfl
        · exact hpeers p hp
        · exact ⟨hle, hother, Nat.min_le_right _ _, Nat.min_le_right _ _, Nat.zero_le _⟩
    share := hi.share
    own := hi.own
    waiting := fun hwaiting => by
      have hstate : s.bus.chipState = .waitingSettings := hwaiting
      rw [State.running, hstate] at hrunning
      cases hrunning
    running := hi.running }

/-- A share of the shelf is at most its capacity, where the chip's figures are among those summed. -/
theorem shareBefore_le {d sumC sumE n c e : Nat} (hc : c ≤ sumC) (he : e ≤ sumE) :
    shareBefore d sumC sumE n c e ≤ d := by
  rcases Nat.lt_or_ge sumC d with hunder | hover
  · rcases Nat.eq_zero_or_pos sumE with hwant | hwant
    · rw [shareBefore_even hunder hwant]
      have := Nat.div_le_self (d - sumC) n
      omega
    · rw [shareBefore_excess hunder hwant]
      have : (d - sumC) * e / sumE ≤ d - sumC :=
        Nat.div_le_of_le_mul (by rw [Nat.mul_comm sumE]; exact Nat.mul_le_mul_left _ he)
      omega
  · rw [shareBefore_scaled hover]
    exact Nat.div_le_of_le_mul (by rw [Nat.mul_comm sumC]; exact Nat.mul_le_mul_left _ hc)

theorem ChipInv.epoch_ended (hi : ChipInv s) (hrunning : s.running = true) :
    ChipInv { s with
      epochDue := false
      share := { s.share with
        peers := agePeers s.share.peers
        own := some s.ownDemand
        share := s.newShare (agePeers s.share.peers) s.ownDemand } } := by
  obtain ⟨hnodup, hlength, hpeers⟩ := hi.peers
  have haddresses : ((agePeers s.share.peers).map Peer.address).Sublist
      (s.share.peers.map Peer.address) := by
    rw [agePeers_eq, List.map_map]
    exact List.filter_sublist.map _
  exact {
    round := hi.round
    queuePlaces := hi.queuePlaces
    clashes := hi.clashes
    oneOnLine := hi.oneOnLine
    address := hi.address
    managers := hi.managers
    epoch := hi.epoch
    peers := by
      refine ⟨hnodup.sublist haddresses, ?_, fun p hp => ?_⟩
      · have := haddresses.length_le
        rw [List.length_map, List.length_map] at this
        exact this.trans hlength
      · have hp' : p ∈ (s.share.peers.filter (fun p => decide (p.age < 3))).map
            (fun p => { p with age := p.age + 1 }) := by rw [← agePeers_eq]; exact hp
        obtain ⟨q, hq, rfl⟩ := List.mem_map.mp hp'
        obtain ⟨hq, hage⟩ := List.mem_filter.mp hq
        obtain ⟨hle, hother, hc, he, -⟩ := hpeers q hq
        exact ⟨hle, hother, hc, he, of_decide_eq_true hage⟩
    share := ⟨(Nat.min_le_left _ _).trans (shareBefore_le (Nat.le_add_right _ _) (Nat.le_add_right _ _)),
      Nat.min_le_right _ _⟩
    own := fun d hd => by
      obtain rfl : s.ownDemand = d := Option.some.inj hd
      exact ⟨Nat.min_le_right _ _, Nat.min_le_right _ _⟩
    waiting := fun hwaiting => by
      have hstate : s.bus.chipState = .waitingSettings := hwaiting
      rw [State.running, hstate] at hrunning
      cases hrunning
    running := hi.running }

/-- A HELLO countdown that has run out is one of a waiting chip, and starts again. -/
theorem ChipInv.helloCountdown (hi : ChipInv s) (hzero : s.bus.helloCountdown = some 0) :
    ChipInv (s.postHello.modBus (fun b => { b with helloCountdown := some Config.helloEvery })) := by
  have hposted := hi.steady (s.calm_post .bus Config.allStations
    (.hello s.bus.address s.bus.resetCause s.bus.chipState s.round)).tosteady
  exact {
    round := hposted.round
    queuePlaces := hposted.queuePlaces
    clashes := hposted.clashes
    oneOnLine := hposted.oneOnLine
    address := hposted.address
    managers := hposted.managers
    epoch := hposted.epoch
    peers := hposted.peers
    share := hposted.share
    own := hposted.own
    waiting := fun hwaiting => by
      obtain ⟨hsettings, hmanagers, hpeers, hown, hshare, -⟩ := hposted.waiting hwaiting
      exact ⟨hsettings, hmanagers, hpeers, hown, hshare, rfl⟩
    running := fun hrunning => by
      have hstate : s.bus.chipState = .running := by
        rw [← State.post_chipState (s := s)]; exact hrunning
      rw [(hi.running hstate).2.2] at hzero
      cases hzero }

theorem exec_chip {c : Instr} {u : State} (hi : ChipInv s) (hu : exec c s = .next u) : ChipInv u := by
  cases hfigures : setsFigures c with
  | false => exact hi.steady (exec_steady hfigures hu)
  | true =>
    cases c with
    | powerOnReset => cases hu; exact hi.beginReset _
    | pinReset =>
      cases hu
      split
      · exact hi
      · exact hi.beginReset _
    | resetEnd straps =>
      cases hs : s.inReset with
      | none =>
        simp only [exec, execResetEnd, hs] at hu
        cases hu
        exact hi
      | some cause =>
        rw [exec_resetEnd straps hs] at hu
        cases hu
        exact chipInv_resetTo _ _ _ _ (Nat.min_le_right _ _)
    | roundOpening =>
      rcases State.whileUp_cases hu with rfl | rfl
      · exact hi
      · exact hi.openRound
    | settings sender raw =>
      rcases exec_settings_cases hu with hcalm | ⟨-, hwaiting, hother, hle, rfl⟩
      · exact hi.steady hcalm.tosteady
      · have hstarted := (hi.steady (s.calm_take (.settings sender raw)).tosteady).enterRunning
          (clampSettings_inRange raw) hwaiting hother hle
        exact hstarted.steady ((State.calm_post _ _ _ _).trans (State.calm_post _ _ _ _)).tosteady
    | demandReceived peer committed excess homes =>
      rcases State.whileUp_cases hu with rfl | rfl
      · exact hi
      · have htaken := hi.steady (s.calm_take (.demandReceived peer committed excess homes)).tosteady
        dsimp only
        split
        · next hheard =>
          simp only [State.hearsPeer, State.hears, Bool.and_eq_true, decide_eq_true_eq] at hheard
          obtain ⟨⟨hrunning, hother⟩, hle⟩ := hheard
          exact htaken.refresh hrunning hother hle
        · exact htaken
    | epochEnd =>
      rcases State.whileUp_cases hu with rfl | rfl
      · exact hi
      · split
        · next hdue =>
          exact (hi.epoch_ended (Bool.and_eq_true_iff.mp hdue).2).steady (State.calm_post _ _ _ _).tosteady
        · exact hi
    | helloCountdownExpiry =>
      rcases State.whileUp_cases hu with rfl | rfl
      · exact hi
      · split
        · next hzero => exact hi.helloCountdown hzero
        · exact hi
    | _ => cases hfigures

end figures

/-- Settles O55: each command keeps the chip's figures, or sets them within their bounds. -/
theorem everyStepKeepsTheChip : Obligations.EveryStepKeepsTheChip := by
  intro s u hi hu
  rcases step_cases hu with rfl | ⟨c, rest, -, hexec⟩
  · exact hi
  · have hrest : ChipInv { s with pending := rest } :=
      ⟨hi.round, hi.queuePlaces, hi.clashes, hi.oneOnLine, hi.address, hi.managers, hi.epoch, hi.peers,
        hi.share, hi.own, hi.waiting, hi.running⟩
    exact exec_chip hrest hexec

end Sys2Proof.Machine
end

section
/-! SUPPORT. The watch over a step: the statement O59. -/

namespace Sys2Proof.Machine

/-- A chip that waits for its settings has every tree OFF. -/
theorem TableInv.off_of_waiting {s : State} (hi : TableInv s)
    (hwaiting : s.bus.chipState = .waitingSettings) (t : TreeId) : (s.tree t).light = .off := by
  refine (hi.off t).mpr ?_
  rw [State.enabled, State.running, hwaiting]
  rfl

theorem exec_watch {c : Instr} {s u : State} (htable : TableInv s) (hi : WatchInv s)
    (hu : exec c s = .next u) : WatchInv u := by
  rw [watchInv_iff] at hi
  by_cases hend : ∃ straps, c = .resetEnd straps
  · obtain ⟨straps, rfl⟩ := hend
    cases hs : s.inReset with
    | none =>
      simp only [exec, execResetEnd, hs] at hu
      cases hu
      exact (watchInv_iff s).mpr hi
    | some cause =>
      rw [exec_resetEnd straps hs] at hu
      cases hu
      exact watchInv_resetTo _ _ _ _
  · rw [watchInv_iff]
    by_cases hsettings : ∃ sender raw, c = .settings sender raw
    · obtain ⟨sender, raw, rfl⟩ := hsettings
      rcases exec_settings_cases hu with hcalm | ⟨-, hwaiting, -, -, rfl⟩
      · exact fun t => (hcalm.trees t).watch (hi t)
      · intro t
        have hlight := htable.off_of_waiting hwaiting t
        rw [State.acceptSettings_tree]
        split
        · exact Tree.watched_quiet (fun d hd => by cases hd) (fun v hv => by cases hv)
            ((hi t).2.1 (by rw [hlight]; rfl))
        · exact hi t
    · exact fun t => (exec_tree_steady (fun straps h => hend ⟨straps, h⟩)
        (fun sender raw h => hsettings ⟨sender, raw, h⟩) hu t).watch (hi t)

/-- The Home Table's bounds do not look at the commands that wait. -/
theorem TableInv.withPending {s : State} (hi : TableInv s) (rest : List Instr) :
    TableInv { s with pending := rest } :=
  ⟨hi.settings, hi.homes, hi.serials, hi.index, hi.admitted, hi.silence, hi.polls, hi.relapses,
    hi.outcomes, hi.undos, hi.off, hi.disabled⟩

/-- Settles O59: each command keeps the watch of each tree; a SETTINGS finds every tree OFF. -/
theorem everyStepKeepsTheWatch : Obligations.EveryStepKeepsTheWatch := by
  intro s u htable hi hu
  rcases step_cases hu with rfl | ⟨c, rest, -, hexec⟩
  · exact hi
  · exact exec_watch (htable.withPending rest)
      ((watchInv_iff _).mpr ((watchInv_iff s).mp hi)) hexec

end Sys2Proof.Machine
end

section
/-! SUPPORT. The readout table over a step (chapter 9): the statement O57. -/

namespace Sys2Proof.Machine

/-! ### How many records are marked -/

/-- The departed records that carry a tag. -/
def markedWith (tag : Nat) (l : List DepartedRecord) : List DepartedRecord :=
  l.filter (fun d => decide (d.mark = some tag))

theorem markedWith_marked (tag : Nat) (l : List DepartedRecord) :
    markedWith tag (l.filter DepartedRecord.marked) = markedWith tag l := by
  rw [markedWith, List.filter_filter]
  refine List.filter_congr fun d _ => ?_
  unfold DepartedRecord.marked
  cases d.mark <;> simp

theorem sum_map_le {α : Type} {f g : α → Nat} {l : List α} (hfg : ∀ x ∈ l, f x ≤ g x) :
    (l.map f).sum ≤ (l.map g).sum := by
  induction l with
  | nil => exact Nat.le_refl 0
  | cons x l ih =>
    simp only [List.map_cons, List.sum_cons]
    exact Nat.add_le_add (hfg x List.mem_cons_self) (ih fun y hy => hfg y (List.mem_cons_of_mem x hy))

/-- Each mark is counted under the entry that it names. -/
theorem marked_le_sum (es : List Readout) (l : List DepartedRecord)
    (hl : ∀ d ∈ l, ∀ tag, d.mark = some tag → ∃ e ∈ es, e.tag = tag) :
    (l.filter DepartedRecord.marked).length ≤ (es.map (fun e => (markedWith e.tag l).length)).sum := by
  induction l with
  | nil => exact Nat.zero_le _
  | cons d l ih =>
    have hrest := ih fun x hx => hl x (List.mem_cons_of_mem d hx)
    have hgrow : ∀ e ∈ es, (markedWith e.tag l).length ≤ (markedWith e.tag (d :: l)).length :=
      fun e _ => ((List.sublist_cons_self d l).filter _).length_le
    cases hmark : d.mark with
    | none =>
      rw [List.filter_cons_of_neg (by simp [DepartedRecord.marked, hmark])]
      exact hrest.trans (sum_map_le hgrow)
    | some tag =>
      obtain ⟨e, he, htag⟩ := hl d List.mem_cons_self tag hmark
      obtain ⟨older, newer, rfl⟩ := List.append_of_mem he
      rw [List.filter_cons_of_pos (by simp [DepartedRecord.marked, hmark]), List.length_cons]
      have hown : (markedWith e.tag (d :: l)).length = (markedWith e.tag l).length + 1 := by
        rw [markedWith, List.filter_cons_of_pos (by simp [hmark, htag]), List.length_cons]
        rfl
      have holder := sum_map_le fun x hx => hgrow x (List.mem_append_left (e :: newer) hx)
      have hnewer := sum_map_le fun x hx =>
        hgrow x (List.mem_append_right older (List.mem_cons_of_mem e hx))
      simp only [List.map_append, List.map_cons, List.sum_append, List.sum_cons] at hrest ⊢
      omega

theorem sum_map_le_mul {α : Type} {f : α → Nat} {n : Nat} (l : List α) (hl : ∀ x ∈ l, f x ≤ n) :
    (l.map f).sum ≤ l.length * n := by
  induction l with
  | nil => exact Nat.zero_le _
  | cons x l ih =>
    have hx := hl x List.mem_cons_self
    have hrest := ih fun y hy => hl y (List.mem_cons_of_mem x hy)
    simp only [List.map_cons, List.sum_cons, List.length_cons, Nat.add_mul, Nat.one_mul]
    omega

/-! ### The table's order -/

/-- An entry of the readout table stands as its range and state say. -/
structure Readout.inOrder (e : Readout) : Prop where
  usage : ∀ t first, e.range = .usage t first →
    1 ≤ e.count ∧ e.count ≤ 6 ∧ first.val + e.count ≤ 128
      ∧ (e.state = .preparing → e.timer = none ∧ e.snapshot = [])
      ∧ (e.state ≠ .preparing → e.timer ≠ none
          ∧ e.snapshot.map (fun r => (snapshotTree r, (snapshotHome r).val))
            = (List.range' first.val e.count).map (fun n => (t, n)))
  departed : e.range = .departed →
    1 ≤ e.count ∧ e.count ≤ 4 ∧ e.state ≠ .preparing ∧ e.timer ≠ none ∧ e.snapshot = []

/-- The home holds its units in the snapshot of an entry with the tag. -/
def State.holdsFor (s : State) (t : TreeId) (h : HomeIdx) (tag : Nat) : Prop :=
  ∃ x, (s.home t h).usage = some x ∧ x.inSnapshot = some tag

/-- The entry has been cut and holds the record of a home. -/
def Readout.holds (e : Readout) (t : TreeId) (h : HomeIdx) (generation : Nat) : Prop :=
  e.state ≠ .preparing ∧ ∃ serial interval counters,
    SnapshotRecord.taken serial t h generation interval counters ∈ e.snapshot

/-- The readout table, stated entry by entry; that at most 16 records are marked follows. -/
structure Meter.inOrder (m : Meter) : Prop where
  places : m.readouts.length ≤ 4 ∧ m.departed.length ≤ 32
  tags : (m.readouts.map Readout.tag).Nodup ∧ ∀ e ∈ m.readouts, 1 ≤ e.tag ∧ e.tag ≤ 255
  nextTag : 1 ≤ m.nextTag ∧ m.nextTag ≤ 255 ∧ ∀ e ∈ m.readouts, e.tag ≠ m.nextTag
  entries : ∀ e ∈ m.readouts, e.inOrder
  counts : ∀ e ∈ m.readouts, e.range = .departed → (markedWith e.tag m.departed).length ≤ e.count
  marks : ∀ d ∈ m.departed, ∀ tag, d.mark = some tag → ∃ e ∈ m.readouts, e.tag = tag ∧ e.range = .departed

theorem Meter.inOrder.tag_inj {m : Meter} (hm : m.inOrder) {e x : Readout} (he : e ∈ m.readouts)
    (hx : x ∈ m.readouts) (htag : x.tag = e.tag) : x = e :=
  List.inj_on_of_nodup_map hm.tags.1 hx he htag

theorem Meter.inOrder.unmarked {m : Meter} (hm : m.inOrder) :
    (m.departed.filter DepartedRecord.marked).length ≤ 16 := by
  have hsum := marked_le_sum m.readouts m.departed fun d hd tag htag =>
    (hm.marks d hd tag htag).imp fun e he => ⟨he.1, he.2.1⟩
  have heach : ∀ e ∈ m.readouts, (markedWith e.tag m.departed).length ≤ 4 := by
    intro e he
    cases hrange : e.range with
    | departed => exact (hm.counts e he hrange).trans ((hm.entries e he).departed hrange).2.1
    | usage t first =>
      refine (Nat.le_of_eq (List.length_eq_zero_iff.mpr (List.filter_eq_nil_iff.mpr ?_))).trans
        (Nat.zero_le 4)
      intro d hd hmark
      obtain ⟨x, hx, htag, hdeparted⟩ := hm.marks d hd e.tag (of_decide_eq_true hmark)
      rw [hm.tag_inj he hx htag, hrange] at hdeparted
      cases hdeparted
  have hall := sum_map_le_mul m.readouts heach
  have hplaces := hm.places.1
  omega

/-- The invariant is the order of the table, and an entry for each home that is held. -/
theorem meterInv_iff (s : State) : MeterInv s ↔ s.meter.inOrder ∧ ∀ t h tag, s.holdsFor t h tag →
    ∃ e ∈ s.meter.readouts, e.tag = tag ∧ e.holds t h (s.record t h).generation := by
  constructor
  · intro hi
    refine ⟨⟨hi.places, hi.tags, hi.nextTag, fun e he => ⟨hi.usage e he, fun hrange => ?_⟩,
      fun e he hrange => ?_, hi.marks⟩, ?_⟩
    · obtain ⟨h1, h2, h3, h4, h5, -⟩ := hi.departed e he hrange
      exact ⟨h1, h2, h3, h4, h5⟩
    · obtain ⟨-, -, -, -, -, h6⟩ := hi.departed e he hrange
      exact h6
    · intro t h tag ⟨x, hx, htag⟩
      exact hi.held t h x tag hx htag
  · intro ⟨hm, hheld⟩
    refine ⟨hm.places, hm.tags, hm.nextTag, fun e he => (hm.entries e he).usage, fun e he hrange => ?_,
      hm.marks, fun t h x tag hx htag => hheld t h tag ⟨x, hx, htag⟩, hm.unmarked⟩
    obtain ⟨h1, h2, h3, h4, h5⟩ := (hm.entries e he).departed hrange
    exact ⟨h1, h2, h3, h4, h5, hm.counts e he hrange⟩

/-! ### What a change must keep -/

section keeping
variable {s u : State}

/-- A tree whose homes hold no more than before holds for no other tag. -/
theorem Tree.holdsNoMore.holdsFor {t : TreeId} (hkept : (s.tree t).holdsNoMore (u.tree t)) {h : HomeIdx}
    {tag : Nat} (hu : u.holdsFor t h tag) :
    s.holdsFor t h tag ∧ (u.record t h).generation = (s.record t h).generation := by
  obtain ⟨x, hx, htag⟩ := hu
  exact hkept h x tag hx htag

/-- The departed list may lose records and marks; the table stands and no home is held anew. -/
theorem MeterInv.of_readouts (hi : MeterInv s) (hreadouts : u.meter.readouts = s.meter.readouts)
    (hnext : u.meter.nextTag = s.meter.nextTag) (hlength : u.meter.departed.length ≤ 32)
    (hmarked : ∀ tag, (markedWith tag u.meter.departed).length ≤ (markedWith tag s.meter.departed).length)
    (hheld : ∀ t, (s.tree t).holdsNoMore (u.tree t)) : MeterInv u := by
  obtain ⟨hm, hheldBefore⟩ := (meterInv_iff s).mp hi
  refine (meterInv_iff u).mpr ⟨⟨⟨?_, hlength⟩, ?_, ?_, ?_, ?_, ?_⟩, ?_⟩
  · rw [hreadouts]; exact hm.places.1
  · rw [hreadouts]; exact hm.tags
  · rw [hreadouts, hnext]; exact hm.nextTag
  · rw [hreadouts]; exact hm.entries
  · rw [hreadouts]; exact fun e he hrange => (hmarked e.tag).trans (hm.counts e he hrange)
  · intro d hd tag htag
    have hsome : 0 < (markedWith tag s.meter.departed).length :=
      (List.length_pos_of_mem (List.mem_filter.mpr ⟨hd, decide_eq_true htag⟩)).trans_le (hmarked tag)
    obtain ⟨x, hx⟩ := List.exists_mem_of_length_pos hsome
    obtain ⟨hxin, hxtag⟩ := List.mem_filter.mp hx
    rw [hreadouts]
    exact hm.marks x hxin tag (of_decide_eq_true hxtag)
  · intro t h tag hholds
    obtain ⟨hbefore, hgen⟩ := (hheld t).holdsFor hholds
    rw [hreadouts, hgen]
    exact hheldBefore t h tag hbefore

theorem MeterInv.calm (hi : MeterInv s) (h : s.calm u) : MeterInv u :=
  hi.of_readouts h.readouts h.nextTag (h.departed hi.places.2)
    (fun tag => by rw [← markedWith_marked, h.marked, markedWith_marked]) h.held

/-- A change that leaves the meter alone and holds no home anew. -/
theorem MeterInv.of_meter (hi : MeterInv s) (hmeter : u.meter = s.meter)
    (hheld : ∀ t, (s.tree t).holdsNoMore (u.tree t)) : MeterInv u :=
  hi.of_readouts (by rw [hmeter]) (by rw [hmeter]) (by rw [hmeter]; exact hi.places.2)
    (fun tag => by rw [hmeter]) hheld

/-- The entries of the table change their timers, and DELIVERED for READY, alone. -/
theorem MeterInv.mapReadouts (hi : MeterInv s) (f : Readout → Readout)
    (hreadouts : u.meter.readouts = s.meter.readouts.map f) (hnext : u.meter.nextTag = s.meter.nextTag)
    (hdeparted : u.meter.departed = s.meter.departed)
    (hf : ∀ e ∈ s.meter.readouts, (f e).tag = e.tag ∧ (f e).range = e.range ∧ (f e).count = e.count
      ∧ (f e).snapshot = e.snapshot ∧ ((f e).state = .preparing ↔ e.state = .preparing)
      ∧ ((f e).timer = none ↔ e.timer = none))
    (hheld : ∀ t, (s.tree t).holdsNoMore (u.tree t)) : MeterInv u := by
  obtain ⟨hm, hheldBefore⟩ := (meterInv_iff s).mp hi
  have htags : u.meter.readouts.map Readout.tag = s.meter.readouts.map Readout.tag := by
    rw [hreadouts, List.map_map]
    exact List.map_congr_left fun e he => (hf e he).1
  have hfrom : ∀ e ∈ u.meter.readouts, ∃ x ∈ s.meter.readouts, f x = e := by
    rw [hreadouts]
    exact fun e he => List.mem_map.mp he
  have hto : ∀ x ∈ s.meter.readouts, f x ∈ u.meter.readouts := by
    rw [hreadouts]
    exact fun x hx => List.mem_map_of_mem hx
  refine (meterInv_iff u).mpr ⟨⟨⟨?_, ?_⟩, ⟨?_, ?_⟩, ⟨?_, ?_, ?_⟩, ?_, ?_, ?_⟩, ?_⟩
  · rw [hreadouts, List.length_map]; exact hm.places.1
  · rw [hdeparted]; exact hm.places.2
  · rw [htags]; exact hm.tags.1
  · intro e he
    obtain ⟨x, hx, rfl⟩ := hfrom e he
    rw [(hf x hx).1]
    exact hm.tags.2 x hx
  · rw [hnext]; exact hm.nextTag.1
  · rw [hnext]; exact hm.nextTag.2.1
  · intro e he
    obtain ⟨x, hx, rfl⟩ := hfrom e he
    rw [(hf x hx).1, hnext]
    exact hm.nextTag.2.2 x hx
  · intro e he
    obtain ⟨x, hx, rfl⟩ := hfrom e he
    obtain ⟨-, hrange, hcount, hsnapshot, hstate, htimer⟩ := hf x hx
    obtain ⟨husage, hdep⟩ := hm.entries x hx
    constructor
    · rw [hrange, hcount, hsnapshot, ne_eq, hstate, ne_eq, htimer]; exact husage
    · rw [hrange, hcount, hsnapshot, ne_eq, hstate, ne_eq, htimer]; exact hdep
  · intro e he
    obtain ⟨x, hx, rfl⟩ := hfrom e he
    obtain ⟨htag, hrange, hcount, -⟩ := hf x hx
    rw [htag, hrange, hcount, hdeparted]
    exact hm.counts x hx
  · intro d hd tag htag
    rw [hdeparted] at hd
    obtain ⟨x, hx, hxtag, hxrange⟩ := hm.marks d hd tag htag
    exact ⟨f x, hto x hx, (hf x hx).1.trans hxtag, (hf x hx).2.1.trans hxrange⟩
  · intro t h tag hholds
    obtain ⟨hbefore, hgen⟩ := (hheld t).holdsFor hholds
    obtain ⟨x, hx, hxtag, hcut, serial, interval, counters, hin⟩ := hheldBefore t h tag hbefore
    obtain ⟨htag, -, -, hsnapshot, hstate, -⟩ := hf x hx
    refine ⟨f x, hto x hx, htag.trans hxtag, fun hp => hcut (hstate.mp hp), serial, interval, counters, ?_⟩
    rw [hsnapshot, hgen]
    exact hin

/-- An entry that no mark names and that holds no home may be freed. -/
theorem MeterInv.free (hi : MeterInv s) (tag : Nat) (hunheld : ∀ t h, ¬ s.holdsFor t h tag)
    (hunmarked : ∀ d ∈ s.meter.departed, d.mark ≠ some tag) : MeterInv (s.modMeter (·.free tag)) := by
  obtain ⟨hm, hheldBefore⟩ := (meterInv_iff s).mp hi
  have hfreed : (s.modMeter (·.free tag)).meter.readouts =
      s.meter.readouts.filter (fun e => !decide (e.tag = tag)) := rfl
  have hsub : List.Sublist (s.modMeter (·.free tag)).meter.readouts s.meter.readouts := by
    rw [hfreed]; exact List.filter_sublist
  have hstays : ∀ e ∈ s.meter.readouts, e.tag ≠ tag → e ∈ (s.modMeter (·.free tag)).meter.readouts := by
    intro e he hne
    rw [hfreed]
    exact List.mem_filter.mpr ⟨he, by simp [hne]⟩
  refine (meterInv_iff _).mpr ⟨⟨⟨hsub.length_le.trans hm.places.1, hm.places.2⟩,
    ⟨hm.tags.1.sublist (hsub.map _), fun e he => hm.tags.2 e (hsub.mem he)⟩,
    ⟨hm.nextTag.1, hm.nextTag.2.1, fun e he => hm.nextTag.2.2 e (hsub.mem he)⟩,
    fun e he => hm.entries e (hsub.mem he), fun e he => hm.counts e (hsub.mem he), ?_⟩, ?_⟩
  · intro d hd k hk
    obtain ⟨e, he, hetag, hrange⟩ := hm.marks d hd k hk
    exact ⟨e, hstays e he fun h => hunmarked d hd (by rw [hk, ← hetag, h]), hetag, hrange⟩
  · intro t h k hholds
    obtain ⟨e, he, hetag, hcut⟩ := hheldBefore t h k hholds
    refine ⟨e, hstays e he fun hsame => hunheld t h ?_, hetag, hcut⟩
    rw [← hsame, hetag]
    exact hholds

end keeping

end Sys2Proof.Machine
end

section
/-! SUPPORT. The Home Table over a change: the bounds of one home, of one tree, and what a change of a home
or a tree must keep for the whole table to stand (chapters 2 and 4). -/

namespace Sys2Proof.Machine

/-! ### One home -/

/-- A home is shaped by its state, and what the settings bound is within them. -/
structure Home.sound (c : Settings) (x : Home) : Prop where
  inv : HomeInv x
  silence : ∀ n, x.record.silence = some n → n < c.silentLimit
  polls : ∀ n, x.record.pollCountdown = some n → n < c.pollEvery
  relapses : ∀ n, x.record.relapses = some n → n ≤ c.relapseLimit

/-- The record holds what it takes to enter a state. -/
structure HomeRecord.readyFor (r : HomeRecord) (new : RecordState) : Prop where
  held : new ≠ .free → ∀ f ∈ [r.serial.isSome, r.rtt.isSome, r.eqd.isSome, r.enrolLevel.isSome,
    r.lastLevel.isSome, r.contested.isSome], f = true
  tiered : isTiered new = true → ∀ f ∈ [r.tier.isSome, r.quota.isSome, r.throttled.isSome,
    r.relapses.isSome], f = true
  delay : ∀ rtt eqd, r.rtt = some rtt → r.eqd = some eqd → rtt + eqd = 12800
  generation : r.generation < 65536
  contested : ∀ n, r.contested = some n → n ≤ 255
  levels : ∀ n, r.enrolLevel = some n ∨ r.lastLevel = some n → -400 ≤ n ∧ n ≤ -50

/-- A home that is held is ready for any state, but for a tiered one only where it is tiered. -/
theorem HomeInv.readyFor {x : Home} (hx : HomeInv x) (hheld : x.record.state ≠ .free) {new : RecordState}
    (htier : isTiered new = true → isTiered x.record.state = true) : x.record.readyFor new where
  held := fun _ f hf => (hx.present f hf).trans (decide_eq_true hheld)
  tiered := fun hnew f hf => (hx.tiered f (by simp only [List.mem_cons] at hf ⊢; tauto)).trans (htier hnew)
  delay := hx.delay
  generation := hx.generation
  contested := hx.contested
  levels := hx.levels

theorem relapsesAfter_isSome (limit : Nat) (cause : Cause) (r : Option Nat) :
    (relapsesAfter limit cause r).isSome = r.isSome := by
  cases cause <;> simp [relapsesAfter]

/-- The timer fits the state entered (R36). -/
def timerFits (new : RecordState) (timer : Option Nat) : Prop :=
  (new = .free ∨ new = .active → timer = none)
    ∧ (new = .awaiting ∨ new = .barred ∨ new = .lost → timer ≠ none)

/-- A home that has entered a state has the shape of that state (R28). -/
theorem HomeRecord.readyFor.homeInv {r : HomeRecord} {new : RecordState} (hr : r.readyFor new)
    {timer : Option Nat} (htimer : timerFits new timer) (limit : Nat) (l : Light) (cause : Cause)
    {y : Option UsageEntry} (hy : y.isSome = isTiered new) :
    HomeInv { record := (r.enter new timer).noticed limit l new cause
              reportSlot := none, trimHold := none, usage := y } := by
  obtain ⟨held, tiered, delay, generation, contested, levels⟩ := hr
  simp only [List.mem_cons, List.not_mem_nil, or_false, forall_eq_or_imp, forall_eq] at held tiered
  constructor
  case present => cases new <;> simp_all [HomeRecord.noticed, HomeRecord.enter, keepIf]
  case tiered =>
    cases new <;> simp_all [HomeRecord.noticed, HomeRecord.enter, keepIf, isTiered, relapsesAfter_isSome]
  case active => cases new <;> simp [HomeRecord.noticed, HomeRecord.enter, keepIf]
  case beside => exact fun _ => ⟨rfl, rfl⟩
  case timer => exact htimer
  case delay =>
    intro rtt eqd hrtt heqd
    simp only [HomeRecord.noticed, HomeRecord.enter, keepIf] at hrtt heqd
    split at hrtt
    · next h => rw [if_pos h] at heqd; exact delay rtt eqd hrtt heqd
    · cases hrtt
  case generation => exact generation
  case contested =>
    intro n hn
    simp only [HomeRecord.noticed, HomeRecord.enter, keepIf] at hn
    split at hn
    · exact contested n hn
    · cases hn
  case score =>
    intro n hn
    simp only [HomeRecord.noticed, HomeRecord.enter, keepIf] at hn
    split at hn <;> cases hn
    exact Nat.zero_le _
  case trimHold => intro n hn; cases hn
  case backlog =>
    intro n hn
    simp only [HomeRecord.noticed, HomeRecord.enter, keepIf, reduceCtorEq, or_false] at hn
    split at hn <;> cases hn
    exact Nat.zero_le _
  case levels =>
    intro n hn
    simp only [HomeRecord.noticed, HomeRecord.enter, keepIf] at hn
    split at hn
    · exact levels n hn
    · rcases hn with hn | hn <;> cases hn

/-- The relapses that a cause brings with it are within RELAPSE_LIMIT (R126, R140). -/
def Cause.within (limit : Nat) (cause : Cause) : Prop :=
  ∀ prior, cause = .undo prior → ∀ n, prior = some n → n ≤ limit

theorem relapsesAfter_le {limit n : Nat} {cause : Cause} {r : Option Nat} (hcause : cause.within limit)
    (hr : ∀ n, r = some n → n ≤ limit) (hn : relapsesAfter limit cause r = some n) : n ≤ limit := by
  cases cause with
  | scoreQuench | searchQuench =>
    simp only [relapsesAfter, Option.map_eq_some_iff] at hn
    obtain ⟨m, -, rfl⟩ := hn
    exact Nat.min_le_right _ _
  | release =>
    simp only [relapsesAfter, Option.map_eq_some_iff] at hn
    obtain ⟨m, -, rfl⟩ := hn
    exact Nat.zero_le _
  | undo prior =>
    simp only [relapsesAfter, Option.map_eq_some_iff] at hn
    obtain ⟨m, hm, rfl⟩ := hn
    cases prior with
    | none => exact hr m hm
    | some p => exact hcause (some p) rfl p rfl
  | _ => exact hr n hn

/-- A home that has entered a state keeps to the settings too. -/
theorem HomeRecord.readyFor.sound {c : Settings} {r : HomeRecord} {new : RecordState}
    (hr : r.readyFor new) {timer : Option Nat} (htimer : timerFits new timer) (l : Light) {cause : Cause}
    (hsilent : 0 < c.silentLimit) (hpoll : 0 < c.pollEvery) (hcause : cause.within c.relapseLimit)
    (hrelapses : ∀ n, r.relapses = some n → n ≤ c.relapseLimit)
    {y : Option UsageEntry} (hy : y.isSome = isTiered new) :
    Home.sound c { record := (r.enter new timer).noticed c.relapseLimit l new cause
                   reportSlot := none, trimHold := none, usage := y } where
  inv := hr.homeInv htimer c.relapseLimit l cause hy
  silence := fun n hn => by
    simp only [HomeRecord.noticed, HomeRecord.enter, keepIf] at hn
    split at hn <;> cases hn
    exact hsilent
  polls := fun n hn => by
    simp only [HomeRecord.noticed, HomeRecord.enter, keepIf] at hn
    split at hn <;> cases hn
    exact hpoll
  relapses := fun n hn => relapsesAfter_le hcause (fun m hm => by
    simp only [HomeRecord.enter, keepIf] at hm
    split at hm
    · exact hrelapses m hm
    · cases hm) hn

/-! ### One tree -/

/-- What the Home Table asks of a tree under the settings given. -/
structure Tree.sound (c : Settings) (on : Bool) (a : Tree) : Prop where
  homes : ∀ h, (a.home h).sound c
  outcomes : ∀ v o, a.light = .verify v → v.outcome = some o → outcomeWithin c.relapseLimit o
  off : a.light = .off ↔ on = false
  disabled : on = false → (∀ h, (a.home h).record.state = .free)
    ∧ a.tx.words = [] ∧ a.tx.pendingPlans = [] ∧ a.tx.taken = []
    ∧ a.rx.window = none ∧ a.rx.awaiting = [] ∧ a.headerDue = false ∧ a.receiveDue = false

/-- The serial index holds the serials of the records that are not FREE, each once (R31). -/
structure State.listed (s : State) : Prop where
  serials : (s.serialIndex.map SerialEntry.serial).Nodup
  index : ∀ (serial : Serial) t h, ⟨serial, t, h⟩ ∈ s.serialIndex ↔
    (s.record t h).state ≠ .free ∧ (s.record t h).serial = some serial

/-- No UNDO_REQUEST with an outcome is in flight that was not before. -/
def State.keepsUndos (s u : State) : Prop :=
  ∀ t h generation o refuseNoted, Instr.undoRequest t h generation (some o) refuseNoted ∈ u.inFlight →
    Instr.undoRequest t h generation (some o) refuseNoted ∈ s.inFlight

theorem tableInv_iff (s : State) : TableInv s ↔
    (s.bus.chipState = .running ↔ s.bus.settings.isSome = true)
      ∧ (∀ t, (s.tree t).sound s.cfg (s.enabled t)) ∧ (∀ t, s.crSum t ≤ s.cfg.admitCap) ∧ s.listed
      ∧ ∀ t h generation o refuseNoted,
        Instr.undoRequest t h generation (some o) refuseNoted ∈ s.inFlight →
          outcomeWithin s.cfg.relapseLimit o := by
  constructor
  · intro hi
    exact ⟨hi.settings, fun t => ⟨fun h => ⟨hi.homes t h, hi.silence t h, hi.polls t h, hi.relapses t h⟩,
      hi.outcomes t, hi.off t, hi.disabled t⟩, hi.admitted, ⟨hi.serials, hi.index⟩, hi.undos⟩
  · intro ⟨hsettings, htrees, hadmitted, hlisted, hundos⟩
    exact ⟨hsettings, fun t h => ((htrees t).homes h).inv, hlisted.serials, hlisted.index, hadmitted,
      fun t h => ((htrees t).homes h).silence, fun t h => ((htrees t).homes h).polls,
      fun t h => ((htrees t).homes h).relapses, fun t => (htrees t).outcomes, hundos,
      fun t => (htrees t).off, fun t => (htrees t).disabled⟩

/-! ### What a change must keep -/

section change
variable {s u : State} {t : TreeId} {h : HomeIdx}

theorem TableInv.tree (hi : TableInv s) (t : TreeId) : (s.tree t).sound s.cfg (s.enabled t) :=
  ((tableInv_iff s).mp hi).2.1 t

theorem TableInv.home (hi : TableInv s) (t : TreeId) (h : HomeIdx) : (s.home t h).sound s.cfg :=
  (hi.tree t).homes h

theorem TableInv.listed (hi : TableInv s) : s.listed := ⟨hi.serials, hi.index⟩

/-- Only an enabled tree holds a record that is not FREE. -/
theorem TableInv.enabled_of_held (hi : TableInv s) (hheld : (s.record t h).state ≠ .free) :
    s.enabled t = true := by
  by_contra hoff
  exact hheld ((hi.disabled t (Bool.eq_false_iff.mpr hoff)).1 h)

theorem State.keepsUndos_of_inFlight (hsame : u.inFlight = s.inFlight) : s.keepsUndos u :=
  fun t h g o r hm => hsame ▸ hm

theorem State.keepsUndos_refl (s : State) : s.keepsUndos s := State.keepsUndos_of_inFlight rfl

theorem State.keepsUndos.trans {a b c : State} (p : a.keepsUndos b) (q : b.keepsUndos c) :
    a.keepsUndos c := fun t h g o r hm => p t h g o r (q t h g o r hm)

theorem State.keepsUndos_raise (s : State) {c : Instr}
    (hc : ∀ t h g o r, c ≠ .undoRequest t h g (some o) r) : s.keepsUndos (s.raise c) := by
  intro t h g o r hm
  rcases List.mem_append.mp hm with hm | hm
  · exact hm
  · exact absurd (List.mem_singleton.mp hm).symm (hc t h g o r)

theorem State.keepsUndos_take (s : State) (c : Instr) : s.keepsUndos (s.take c) :=
  fun _ _ _ _ _ hm => List.mem_of_mem_erase hm

theorem State.keepsUndos_tell (s : State) (fin : EntryEnd) (e : TxEntry) : s.keepsUndos (s.tell fin e) := by
  unfold State.tell
  dsimp only
  split
  · exact (s.keepsUndos_of_inFlight rfl).trans (State.keepsUndos_raise _ (by simp))
  · exact (s.keepsUndos_of_inFlight rfl).trans (State.keepsUndos_raise _ (by simp))
  · exact s.keepsUndos_of_inFlight rfl

theorem State.keepsUndos_postEntry (s : State) (e : TxEntry) : s.keepsUndos (s.postEntry e) := by
  have told : ∀ (a : State) fin x, a.inFlight = s.inFlight → s.keepsUndos (a.tell fin x) :=
    fun a fin x ha => (s.keepsUndos_of_inFlight ha).trans (a.keepsUndos_tell fin x)
  unfold State.postEntry
  dsimp only
  split
  · exact told _ _ _ rfl
  · split
    · exact s.keepsUndos_of_inFlight rfl
    · split
      · split
        · exact told _ _ _ rfl
        · exact told _ _ _ rfl
      · exact told _ _ _ rfl

theorem State.keepsUndos_post (s : State) (p : Block) (d : Nat) (m : Msg) : s.keepsUndos (s.post p d m) :=
  s.keepsUndos_postEntry _

theorem State.keepsUndos_alarm (s : State) (a : Alarm) : s.keepsUndos (s.alarm a) := s.keepsUndos_post _ _ _

theorem State.keepsUndos_alarmRelapseLimit (s : State) (t : TreeId) (h : HomeIdx) :
    s.keepsUndos (s.alarmRelapseLimit t h) := by
  unfold State.alarmRelapseLimit
  split
  · exact s.keepsUndos_alarm _
  · exact s.keepsUndos_refl

theorem State.keepsUndos_noticeMonitor (s : State) (t : TreeId) (h : HomeIdx) (new : RecordState)
    (cause : Cause) : s.keepsUndos (s.noticeMonitor t h new cause) := by
  have hnoticed : s.keepsUndos (s.noticedTrees t h new cause) := by
    rw [State.noticedTrees_eq]
    exact State.keepsUndos_of_inFlight rfl
  rw [State.noticeMonitor_eq]
  split
  · exact (hnoticed.trans (State.keepsUndos_alarm _ _)).trans (State.keepsUndos_alarmRelapseLimit _ t h)
  · exact hnoticed

/-- A change of state sends alarms at most. -/
theorem State.keepsUndos_changeState (s : State) (t : TreeId) (h : HomeIdx) (new : RecordState)
    (timer : Option Nat) (cause : Cause) : s.keepsUndos (s.changeState t h new timer cause) := by
  have unindexed : ∀ a : State, (if new = .free then a.unindex t h else a).inFlight = a.inFlight :=
    fun a => by split <;> rfl
  have metered : ∀ a : State, (a.noticeMeter t h cause).inFlight = a.inFlight :=
    fun a => by rw [State.noticeMeter_eq]; split <;> rfl
  unfold State.changeState
  dsimp only
  refine State.keepsUndos.trans ?_ (State.keepsUndos_of_inFlight (metered _))
  refine State.keepsUndos.trans (b := if new = .free then (s.modHome t h _).unindex t h else s.modHome t h _)
    ?_ (State.keepsUndos_noticeMonitor _ t h new cause)
  exact State.keepsUndos_of_inFlight ((unindexed _).trans rfl)

theorem State.keepsUndos_evaluateQuota (s : State) (t : TreeId) (h : HomeIdx) :
    s.keepsUndos (s.evaluateQuota t h) := by
  unfold State.evaluateQuota
  split
  · exact (s.keepsUndos_of_inFlight rfl).trans (State.keepsUndos_post _ _ _ _)
  · exact s.keepsUndos_refl

/-! ### The table over a change -/

theorem State.enabled_of_figures (hf : s.sameFigures u) (v : TreeId) : u.enabled v = s.enabled v := by
  rw [State.enabled, State.enabled, State.running, State.running, hf.chipState, hf.cfg]

/-- The table stands where each tree does, the index fits, and the settings and the undos in flight are as
before. -/
theorem TableInv.of_trees (hi : TableInv s) (hchip : u.bus.chipState = s.bus.chipState)
    (hsettings : u.bus.settings = s.bus.settings) (hlisted : u.listed) (hundos : s.keepsUndos u)
    (htrees : ∀ v, (u.tree v).sound s.cfg (s.enabled v)) (hadmitted : ∀ v, u.crSum v ≤ s.cfg.admitCap) :
    TableInv u := by
  have hcfg : u.cfg = s.cfg := by rw [State.cfg, State.cfg, hsettings]
  have hon : ∀ v, u.enabled v = s.enabled v := fun v => by
    rw [State.enabled, State.enabled, State.running, State.running, hchip, hcfg]
  rw [tableInv_iff]
  refine ⟨by rw [hchip, hsettings]; exact hi.settings, fun v => ?_, fun v => ?_, hlisted,
    fun v k g o r hm => ?_⟩
  · rw [hcfg, hon v]; exact htrees v
  · rw [hcfg]; exact hadmitted v
  · rw [hcfg]; exact hi.undos v k g o r (hundos v k g o r hm)

theorem State.listed.congr (hl : s.listed) (hindex : u.serialIndex = s.serialIndex)
    (hnames : ∀ v k, ((u.record v k).state = .free ↔ (s.record v k).state = .free)
      ∧ (u.record v k).serial = (s.record v k).serial) : u.listed := by
  refine ⟨by rw [hindex]; exact hl.serials, fun serial v k => ?_⟩
  obtain ⟨hfree, hserial⟩ := hnames v k
  rw [hindex, hserial, ne_eq, hfree]
  exact hl.index serial v k

theorem State.crSum_congr (hcfg : u.cfg = s.cfg)
    (hrecords : ∀ k, s.crOf (u.record t k) = s.crOf (s.record t k)) : u.crSum t = s.crSum t := by
  rw [State.crSum_eq, State.crSum_eq]
  exact Finset.sum_congr rfl fun k _ => by rw [State.crOf_congr hcfg, hrecords k]

/-- A change that leaves the trees and the index alone. -/
theorem TableInv.of_sameTrees (hi : TableInv s) (hf : s.sameFigures u) (htrees : u.trees = s.trees)
    (hindex : u.serialIndex = s.serialIndex) (hundos : s.keepsUndos u) : TableInv u := by
  have htree : ∀ v, u.tree v = s.tree v := fun v => by rw [State.tree, State.tree, htrees]
  have hrecord : ∀ v k, u.record v k = s.record v k := fun v k => by
    rw [State.record, State.record, State.home, State.home, htree v]
  refine hi.of_trees hf.chipState hf.settings
    (hi.listed.congr hindex fun v k => by rw [hrecord v k]; exact ⟨Iff.rfl, rfl⟩) hundos
    (fun v => by rw [htree v]; exact hi.tree v) fun v => ?_
  rw [State.crSum_congr hf.cfg fun k => by rw [hrecord v k]]
  exact hi.admitted v

/-- The change from one home to another keeps the state, the serial and the CR, and what bounds it. -/
structure Home.keeps (c : Settings) (x y : Home) : Prop where
  state : y.record.state = x.record.state
  serial : y.record.serial = x.record.serial
  tier : y.record.tier = x.record.tier
  sound : x.sound c → y.sound c

theorem Home.keeps_refl (c : Settings) (x : Home) : x.keeps c x := ⟨rfl, rfl, rfl, id⟩

/-- The change from one light state to another keeps OFF, and the outcomes recorded. -/
structure Light.keeps (limit : Nat) (l m : Light) : Prop where
  off : m = .off ↔ l = .off
  outcomes : (∀ v o, l = .verify v → v.outcome = some o → outcomeWithin limit o) →
    ∀ v o, m = .verify v → v.outcome = some o → outcomeWithin limit o

theorem Light.keeps_refl (limit : Nat) (l : Light) : l.keeps limit l := ⟨Iff.rfl, id⟩

/-- A tree without homes and traffic, as a disabled one is. -/
def Tree.quiet (a : Tree) : Prop :=
  a.tx.words = [] ∧ a.tx.pendingPlans = [] ∧ a.tx.taken = [] ∧ a.rx.window = none ∧ a.rx.awaiting = []
    ∧ a.headerDue = false ∧ a.receiveDue = false

/-- The change from one tree to another keeps each home and the light state, and a disabled tree quiet. -/
structure Tree.keeps (c : Settings) (on : Bool) (a b : Tree) : Prop where
  homes : ∀ h, (a.home h).keeps c (b.home h)
  light : a.light.keeps c.relapseLimit b.light
  quiet : on = false → a.quiet → b.quiet

theorem Tree.keeps_refl (c : Settings) (on : Bool) (a : Tree) : a.keeps c on a :=
  ⟨fun h => (a.home h).keeps_refl c, a.light.keeps_refl _, fun _ => id⟩

theorem Tree.keeps.sound {c : Settings} {on : Bool} {a b : Tree} (hk : a.keeps c on b) (ha : a.sound c on) :
    b.sound c on where
  homes := fun h => (hk.homes h).sound (ha.homes h)
  outcomes := hk.light.outcomes ha.outcomes
  off := hk.light.off.trans ha.off
  disabled := fun hoff => ⟨fun h => (hk.homes h).state.trans ((ha.disabled hoff).1 h),
    hk.quiet hoff (ha.disabled hoff).2⟩

/-- A change that keeps each tree keeps the table. -/
theorem TableInv.of_keeps (hi : TableInv s) (hchip : u.bus.chipState = s.bus.chipState)
    (hsettings : u.bus.settings = s.bus.settings) (hindex : u.serialIndex = s.serialIndex)
    (hundos : s.keepsUndos u) (htrees : ∀ v, (s.tree v).keeps s.cfg (s.enabled v) (u.tree v)) :
    TableInv u := by
  have hcfg : u.cfg = s.cfg := by rw [State.cfg, State.cfg, hsettings]
  refine hi.of_trees hchip hsettings (hi.listed.congr hindex fun v k => ?_) hundos
    (fun v => (htrees v).sound (hi.tree v)) fun v => ?_
  · have hhome := (htrees v).homes k
    exact ⟨by rw [State.record, State.record, State.home, State.home, hhome.state], hhome.serial⟩
  · rw [State.crSum_congr hcfg fun k => ?_]
    · exact hi.admitted v
    · have hhome := (htrees v).homes k
      simp only [State.crOf, State.ratesOf, State.record, State.home, hhome.state, hhome.tier]
      rfl

/-- A change of one tree. -/
theorem TableInv.of_modTree (hi : TableInv s) (f : Tree → Tree)
    (hf : (s.tree t).keeps s.cfg (s.enabled t) (f (s.tree t))) : TableInv (s.modTree t f) := by
  refine hi.of_keeps rfl rfl rfl s.keepsUndos_refl fun v => ?_
  by_cases hv : v = t
  · subst hv
    rw [State.tree_modTree_self]; exact hf
  · rw [State.tree_modTree_other _ _ _ _ hv]; exact Tree.keeps_refl _ _ _

/-- A change of one enabled tree's traffic. -/
theorem TableInv.of_traffic (hi : TableInv s) (f : Tree → Tree) (hhomes : (f (s.tree t)).homes = (s.tree t).homes)
    (hlight : (f (s.tree t)).light = (s.tree t).light)
    (hquiet : s.enabled t = false → (s.tree t).quiet → (f (s.tree t)).quiet) :
    TableInv (s.modTree t f) :=
  hi.of_modTree f ⟨fun h => by rw [Tree.home, Tree.home, hhomes]; exact Home.keeps_refl _ _,
    hlight ▸ Light.keeps_refl _ _, hquiet⟩

theorem TableInv.modHome (hi : TableInv s) (t : TreeId) (h : HomeIdx) (f : Home → Home)
    (hf : (s.home t h).keeps s.cfg (f (s.home t h))) : TableInv (s.modHome t h f) := by
  refine hi.of_modTree _ ⟨fun k => ?_, Light.keeps_refl _ _, fun _ => id⟩
  by_cases hk : k = h
  · subst hk
    rw [Tree.home_modHome_self]; exact hf
  · rw [Tree.home_modHome_other _ _ _ _ hk]; exact Home.keeps_refl _ _

theorem TableInv.mapHomes (hi : TableInv s) (t : TreeId) (f : HomeIdx → Home → Home)
    (hf : ∀ k, (s.home t k).keeps s.cfg (f k (s.home t k))) :
    TableInv (s.modTree t (fun tr => tr.mapHomes f)) :=
  hi.of_modTree _ ⟨fun k => by rw [Tree.home_mapHomes]; exact hf k, Light.keeps_refl _ _, fun _ => id⟩

theorem TableInv.setLight (hi : TableInv s) (t : TreeId) (l : Light)
    (hl : (s.tree t).light.keeps s.cfg.relapseLimit l) : TableInv (s.setLight t l) :=
  hi.of_modTree _ ⟨fun _ => Home.keeps_refl _ _, hl, fun _ => id⟩

theorem TableInv.queueWord (hi : TableInv s) (hon : s.enabled t = true) (w : ControlWord) :
    TableInv (s.queueWord t w) :=
  hi.of_traffic _ rfl rfl fun hoff => absurd (hon.symm.trans hoff) (by decide)

theorem TableInv.post (hi : TableInv s) (p : Block) (d : Nat) (m : Msg) : TableInv (s.post p d m) :=
  hi.of_sameTrees (s.calm_post p d m).figures (s.post_trees _ _ _) (s.post_serialIndex _ _ _)
    (s.keepsUndos_post p d m)

theorem TableInv.alarm (hi : TableInv s) (a : Alarm) : TableInv (s.alarm a) := hi.post _ _ _

theorem TableInv.emit (hi : TableInv s) (o : Output) : TableInv (s.emit o) :=
  hi.of_sameTrees (s.calm_emit o).figures rfl rfl (s.keepsUndos_of_inFlight rfl)

theorem TableInv.take (hi : TableInv s) (c : Instr) : TableInv (s.take c) :=
  hi.of_sameTrees (s.calm_take c).figures rfl rfl (s.keepsUndos_take c)

theorem TableInv.raise (hi : TableInv s) {c : Instr} (hc : ∀ t h g o r, c ≠ .undoRequest t h g (some o) r) :
    TableInv (s.raise c) :=
  hi.of_sameTrees (s.calm_raise c).figures rfl rfl (s.keepsUndos_raise hc)

theorem TableInv.modMeter (hi : TableInv s) (f : Meter → Meter) : TableInv (s.modMeter f) :=
  hi.of_sameTrees (s.steady_modMeter f).figures rfl rfl (s.keepsUndos_of_inFlight rfl)

/-! ### A change of one home and its tree -/

/-- Home `h` of an enabled tree changes, and the index with it. -/
theorem TableInv.of_onlyHome (hi : TableInv s) (ho : s.onlyHome u t h) (hon : s.enabled t = true)
    (hlisted : u.listed) (hundos : s.keepsUndos u) (hsound : (u.home t h).sound s.cfg)
    (hcr : u.crSum t ≤ s.cfg.admitCap) (hlight : (s.tree t).light.keeps s.cfg.relapseLimit (u.tree t).light) :
    TableInv u := by
  have hcfg := ho.cfg
  obtain ⟨hchip, hothers, -, hhomes⟩ := ho
  obtain ⟨-, ⟨hstate, -, -, hset, -⟩, -⟩ := hchip
  refine hi.of_trees hstate hset hlisted hundos (fun v => ?_) fun v => ?_
  · by_cases hv : v = t
    · subst hv
      refine ⟨fun k => ?_, hlight.outcomes (hi.tree v).outcomes, hlight.off.trans (hi.off v),
        fun hoff => absurd (hon.symm.trans hoff) (by decide)⟩
      by_cases hk : k = h
      · subst hk; exact hsound
      · rw [show (u.tree v).home k = (s.tree v).home k from hhomes k hk]
        exact hi.home v k
    · rw [hothers v hv]; exact hi.tree v
  · by_cases hv : v = t
    · subst hv; exact hcr
    · rw [State.crSum_congr hcfg fun k => by rw [State.record, State.record, State.home, State.home, hothers v hv]]
      exact hi.admitted v

end change

end Sys2Proof.Machine
end

section
/-! SUPPORT. The Home Table over a change of a record's state, an enrolment and the requests on records
(chapters 2, 4 and 7). -/

namespace Sys2Proof.Machine

/-! ### Light states -/

theorem Light.keeps_afterNotice (limit : Nat) (l : Light) (h : HomeIdx) (generation : Nat)
    (new : RecordState) (cause : Cause) : l.keeps limit (l.afterNotice h generation new cause) := by
  cases l with
  | clear _ | foreign _ | off => exact Light.keeps_refl _ _
  | search d =>
    unfold Light.afterNotice
    dsimp only
    split
    · exact ⟨by simp, fun _ v o hv => by cases hv⟩
    · exact Light.keeps_refl _ _
  | verify v =>
    unfold Light.afterNotice
    dsimp only
    split
    · split
      · exact ⟨by simp, fun _ v o hv => by cases hv⟩
      · split
        · exact ⟨by simp, fun hv w o hw ho => hv v o rfl (by cases hw; exact ho)⟩
        · exact Light.keeps_refl _ _
    · exact Light.keeps_refl _ _

theorem Light.keeps_withOutcome {limit : Nat} (l : Light) (h : HomeIdx) (generation : Nat)
    {o : SearchOutcome} (ho : outcomeWithin limit o) : l.keeps limit (l.withOutcome h generation o) := by
  cases l with
  | clear _ | foreign _ | off | search _ => exact Light.keeps_refl _ _
  | verify v =>
    unfold Light.withOutcome
    dsimp only
    split
    · exact ⟨by simp, fun _ w p hw hp => by cases hw; cases hp; exact ho⟩
    · exact Light.keeps_refl _ _

/-! ### A change of a record's state -/

section enters
variable {s a u : State} {t : TreeId} {h : HomeIdx}

/-- The serial index without the entry of a record that is freed. -/
theorem State.listed.freed (hl : s.listed)
    (hindex : u.serialIndex = s.serialIndex.filter (fun e => !(decide (e.tree = t) && decide (e.home = h))))
    (hfree : (u.record t h).state = .free)
    (hothers : ∀ v k, ¬ (v = t ∧ k = h) → u.record v k = s.record v k) : u.listed := by
  refine ⟨?_, fun serial v k => ?_⟩
  · rw [hindex]
    exact hl.serials.sublist (List.filter_sublist.map _)
  · rw [hindex, List.mem_filter]
    by_cases hvk : v = t ∧ k = h
    · obtain ⟨rfl, rfl⟩ := hvk
      simp [hfree]
    · rw [hothers v k hvk, ← hl.index serial v k]
      exact and_iff_left (by simpa using not_and_or.mp hvk)

theorem settingsInRange.positive {c : Settings} (hin : settingsInRange c) :
    0 < c.silentLimit ∧ 0 < c.pollEvery := by
  obtain ⟨-, hranges, -⟩ := hin
  have hsilent := (hranges (Settings.silentLimit, 4, 255) (by simp [settingRanges])).1
  have hpoll := (hranges (Settings.pollEvery, 1, 16) (by simp [settingRanges])).1
  dsimp only at hsilent hpoll
  omega

theorem State.onlyHome.record_other (ho : s.onlyHome u t h) (v : TreeId) (k : HomeIdx)
    (hvk : ¬ (v = t ∧ k = h)) : u.record v k = s.record v k := by
  by_cases hv : v = t
  · subst hv
    exact ho.record fun hk => hvk ⟨rfl, hk⟩
  · rw [State.record, State.record, ho.home_other hv k]

/-- A held record changes its state, perhaps after changes of its own that leave it ready for the state
entered. -/
theorem TableInv.enters (hi : TableInv s) (hin : settingsInRange s.cfg)
    (hheld : (s.record t h).state ≠ .free) (hbefore : s.onlyHome a t h) (hundos : s.keepsUndos a)
    (hindex : a.serialIndex = s.serialIndex) (hlight : (a.tree t).light = (s.tree t).light)
    (hserial : (a.record t h).serial = (s.record t h).serial)
    {new : RecordState} {timer : Option Nat} {cause : Cause}
    (hready : (a.record t h).readyFor new) (htimer : timerFits new timer)
    (hcause : cause.within s.cfg.relapseLimit)
    (hrelapses : ∀ n, (a.record t h).relapses = some n → n ≤ s.cfg.relapseLimit)
    (husage : (if cause = .admission then some newUsage else (a.home t h).usage).isSome = isTiered new)
    (hcr : isTiered new = true →
      s.crSum t + (s.ratesOf (a.record t h)).cr ≤ s.cfg.admitCap + s.crOf (s.record t h)) :
    TableInv (a.changeState t h new timer cause) := by
  have hcfg : a.cfg = s.cfg := hbefore.cfg
  have honly := hbefore.trans (a.changeState_onlyHome t h new timer cause)
  have hhome := a.changeState_home t h new timer cause
  have hrecord : (a.changeState t h new timer cause).record t h
      = ((a.record t h).enter new timer).noticed a.cfg.relapseLimit (a.tree t).light new cause := by
    rw [State.record, hhome]; rfl
  refine hi.of_onlyHome honly (hi.enabled_of_held hheld) ?_
    (hundos.trans (a.keepsUndos_changeState t h new timer cause)) ?_ ?_ ?_
  · have hafter := a.changeState_serialIndex t h new timer cause
    by_cases hnew : new = .free
    · rw [if_pos hnew, State.unindex, hindex] at hafter
      exact hi.listed.freed hafter (by rw [hrecord, hnew]; rfl) honly.record_other
    · rw [if_neg hnew, hindex] at hafter
      refine hi.listed.congr hafter fun v k => ?_
      by_cases hvk : v = t ∧ k = h
      · obtain ⟨rfl, rfl⟩ := hvk
        rw [hrecord, ← hserial]
        exact ⟨iff_of_false hnew hheld, if_pos (decide_eq_true hnew)⟩
      · rw [honly.record_other v k hvk]
        exact ⟨Iff.rfl, rfl⟩
  · rw [hhome, Home.changed, hcfg]
    exact hready.sound htimer _ hin.positive.1 hin.positive.2 hcause hrelapses husage
  · have hsum := State.crSum_change (t := t) honly.cfg fun k hk => honly.record hk
    have hadmitted := hi.admitted t
    cases htier : isTiered new with
    | false =>
      have hnone : s.crOf ((a.changeState t h new timer cause).record t h) = 0 := by
        rw [hrecord, State.crOf]
        exact if_neg (by simp [HomeRecord.noticed, HomeRecord.enter, htier])
      omega
    | true =>
      have hsame : s.crOf ((a.changeState t h new timer cause).record t h)
          = (s.ratesOf (a.record t h)).cr := by
        rw [hrecord, State.crOf]
        simp [HomeRecord.noticed, HomeRecord.enter, htier, keepIf, State.ratesOf]
      have hroom := hcr htier
      omega
  · rw [State.changeState_light, hlight]
    exact Light.keeps_afterNotice _ _ _ _ _ _

/-- A held record changes its state, without an admission. -/
theorem TableInv.changeState (hi : TableInv s) (hin : settingsInRange s.cfg)
    (hheld : (s.record t h).state ≠ .free) {new : RecordState} {timer : Option Nat} {cause : Cause}
    (htier : isTiered new = isTiered (s.record t h).state) (htimer : timerFits new timer)
    (hadmit : cause ≠ .admission) (hcause : cause.within s.cfg.relapseLimit) :
    TableInv (s.changeState t h new timer cause) := by
  have hsound := hi.home t h
  refine hi.enters hin hheld (s.onlyHome_refl t h) s.keepsUndos_refl rfl rfl rfl
    (hsound.inv.readyFor hheld fun hnew => htier ▸ hnew) htimer hcause hsound.relapses ?_ fun hnew => ?_
  · rw [if_neg hadmit, htier]
    exact hsound.inv.tiered _ (by simp)
  · have hadmitted := hi.admitted t
    rw [htier] at hnew
    have hown : s.crOf (s.record t h) = (s.ratesOf (s.record t h)).cr := if_pos hnew
    omega

/-- The home after its hand-off has a usage entry in no state. -/
theorem TableInv.usageAfterHandOff (hi : TableInv s) (t : TreeId) (h : HomeIdx) :
    s.usageAfterHandOff t h = none := by
  unfold State.usageAfterHandOff
  split
  · rfl
  · next hnot =>
    have hshape := (hi.homes t h).tiered ((s.home t h).usage.isSome) (by simp)
    refine Option.not_isSome_iff_eq_none.mp fun hsome => hnot ?_
    exact hshape.symm.trans hsome

/-- A held record is handed off and goes to a state without a tier. -/
theorem TableInv.leaves (hi : TableInv s) (hin : settingsInRange s.cfg)
    (hheld : (s.record t h).state ≠ .free) {new : RecordState} {timer : Option Nat} {cause : Cause}
    (reason : DepartedReason) (htier : isTiered new = false) (htimer : timerFits new timer)
    (hadmit : cause ≠ .admission) (hcause : cause.within s.cfg.relapseLimit) :
    TableInv ((s.handOffTiered t h reason).changeState t h new timer cause) := by
  have hhome := s.handOffTiered_home t h reason
  have hrecord : (s.handOffTiered t h reason).record t h = s.record t h := by rw [State.record, hhome]; rfl
  refine hi.enters hin hheld (s.handOffTiered_onlyHome t h reason)
    (State.keepsUndos_of_inFlight (s.handOffTiered_sameTraffic t h reason).2.1) (by simp) ?_ (by rw [hrecord])
    (by rw [hrecord]; exact (hi.homes t h).readyFor hheld fun hnew => absurd (htier.symm.trans hnew) (by decide))
    htimer hcause (by rw [hrecord]; exact hi.relapses t h) ?_ fun hnew => absurd (htier.symm.trans hnew) (by decide)
  · rw [State.handOffTiered_tree]; rfl
  · rw [if_neg hadmit, hhome, hi.usageAfterHandOff t h, htier]; rfl

theorem TableInv.departWithDismiss (hi : TableInv s) (hin : settingsInRange s.cfg)
    (hheld : (s.record t h).state ≠ .free) (reason : DepartedReason) {cause : Cause}
    (hadmit : cause ≠ .admission) (hcause : cause.within s.cfg.relapseLimit) :
    TableInv (s.departWithDismiss t h reason cause) := by
  refine (hi.leaves hin hheld reason rfl ⟨fun _ => rfl, by simp⟩ hadmit hcause).queueWord ?_ _
  rw [State.enabled_of_figures
    ((s.calm_handOffTiered t h reason).trans (State.calm_changeState _ t h _ _ _)).figures t]
  exact hi.enabled_of_held hheld

theorem TableInv.freeWithDismiss (hi : TableInv s) (hin : settingsInRange s.cfg)
    (hheld : (s.record t h).state ≠ .free) (huntiered : isTiered (s.record t h).state = false) {cause : Cause}
    (hadmit : cause ≠ .admission) (hcause : cause.within s.cfg.relapseLimit) :
    TableInv (s.freeWithDismiss t h cause) := by
  rw [← State.departWithDismiss_untiered .dismissed cause huntiered]
  exact hi.departWithDismiss hin hheld .dismissed hadmit hcause

/-- A held record changes its state, and a word for it is queued. -/
theorem TableInv.changeState_queueWord (hi : TableInv s) (hin : settingsInRange s.cfg)
    (hheld : (s.record t h).state ≠ .free) {new : RecordState} {timer : Option Nat} {cause : Cause}
    (htier : isTiered new = isTiered (s.record t h).state) (htimer : timerFits new timer)
    (hadmit : cause ≠ .admission) (hcause : cause.within s.cfg.relapseLimit) (w : ControlWord) :
    TableInv ((s.changeState t h new timer cause).queueWord t w) := by
  refine (hi.changeState hin hheld htier htimer hadmit hcause).queueWord ?_ w
  rw [State.enabled_of_figures (s.calm_changeState t h new timer cause).figures t]
  exact hi.enabled_of_held hheld

end enters

end Sys2Proof.Machine
end

section
/-! SUPPORT. The Home Table over the changes of single fields of a home: distances, levels, contests, scores,
silence, timers, throttles, reports and counts (R30, R32, R36, R70, R83, R84, R90 to R92, R123, R126, R145,
R151). -/

namespace Sys2Proof.Machine

/-! ### Single fields of a home -/

section fields
variable {c : Settings} {x : Home}

/-- A change of the test_dark flag and of the numbers in the usage entry. -/
theorem Home.keeps_usage (c : Settings) (x : Home) {y : Option UsageEntry} (hy : y.isSome = x.usage.isSome) :
    x.keeps c { x with usage := y } where
  state := rfl
  serial := rfl
  tier := rfl
  sound := fun hx => ⟨{ hx.inv with tiered := by simpa [hy] using hx.inv.tiered }, hx.silence, hx.polls,
    hx.relapses⟩

theorem Home.keeps_testDark (c : Settings) (x : Home) (dark : Option Bool) :
    x.keeps c { x with record := { x.record with testDark := dark } } :=
  ⟨rfl, rfl, rfl, fun hx => ⟨{ hx.inv with }, hx.silence, hx.polls, hx.relapses⟩⟩

theorem Home.keeps_throttled (c : Settings) (x : Home) {f : Option Bool}
    (hf : f.isSome = x.record.throttled.isSome) :
    x.keeps c { x with record := { x.record with throttled := f } } where
  state := rfl
  serial := rfl
  tier := rfl
  sound := fun hx => ⟨{ hx.inv with tiered := by simpa [hf] using hx.inv.tiered }, hx.silence, hx.polls,
    hx.relapses⟩

theorem Home.keeps_contested (c : Settings) (x : Home) : x.keeps c { x with record := { x.record with
    contested := x.record.contested.map (fun n => min (n + 1) Config.contestedMax) } } where
  state := rfl
  serial := rfl
  tier := rfl
  sound := fun hx => ⟨{ hx.inv with
      present := by simpa using hx.inv.present
      contested := fun n hn => by
        obtain ⟨m, -, rfl⟩ := Option.map_eq_some_iff.mp hn
        exact Nat.min_le_right _ _ }, hx.silence, hx.polls, hx.relapses⟩

/-- The level of a discovery reply or a burst is within its range. -/
def levelInRange (level : Int) : Prop := -400 ≤ level ∧ level ≤ -50

theorem Home.keeps_ranged (hheld : x.record.state ≠ .free) {rtt : Nat} {level : Int} (hrtt : rtt ≤ 12800)
    (hlevel : levelInRange level) : x.keeps c { x with record := x.record.ranged rtt level } where
  state := rfl
  serial := rfl
  tier := rfl
  sound := fun hx => ⟨{ hx.inv with
      present := by
        have hpresent := hx.inv.present
        simp only [List.mem_cons, List.not_mem_nil, or_false, forall_eq_or_imp, forall_eq, hheld, ne_eq,
          not_false_eq_true, decide_true] at hpresent
        simp [HomeRecord.ranged, hheld, hpresent]
      delay := fun r e hr he => by cases hr; cases he; simp only [Config.referenceTrip]; omega
      levels := fun n hn => by rcases hn with hn | hn <;> cases hn <;> exact hlevel },
    hx.silence, hx.polls, hx.relapses⟩

theorem Home.keeps_lastLevel (hheld : x.record.state ≠ .free) {level : Int} (hlevel : levelInRange level) :
    x.keeps c { x with record := { x.record with lastLevel := some level } } where
  state := rfl
  serial := rfl
  tier := rfl
  sound := fun hx => ⟨{ hx.inv with
      present := by
        have hpresent := hx.inv.present
        simp only [List.mem_cons, List.not_mem_nil, or_false, forall_eq_or_imp, forall_eq, hheld, ne_eq,
          not_false_eq_true, decide_true] at hpresent
        simp [hheld, hpresent]
      levels := fun n hn => by
        rcases hn with hn | hn
        · exact hx.inv.levels n (.inl hn)
        · cases hn; exact hlevel },
    hx.silence, hx.polls, hx.relapses⟩

theorem Home.keeps_silence (hactive : x.record.state = .active) {n : Nat} (hn : n < c.silentLimit) :
    x.keeps c { x with record := { x.record with silence := some n } } where
  state := rfl
  serial := rfl
  tier := rfl
  sound := fun hx => ⟨{ hx.inv with
      active := by
        have hshape := hx.inv.active
        simp only [List.mem_cons, List.not_mem_nil, or_false, forall_eq_or_imp, forall_eq, hactive,
          decide_true] at hshape
        simp [hactive, hshape] },
    fun m hm => (by cases hm; exact hn), hx.polls, hx.relapses⟩

theorem Home.keeps_rogueScore {n m : Nat} (hscore : x.record.rogueScore = some m) (hn : n ≤ 31) :
    x.keeps c { x with record := { x.record with rogueScore := some n } } where
  state := rfl
  serial := rfl
  tier := rfl
  sound := fun hx => ⟨{ hx.inv with
      active := by simpa [hscore] using hx.inv.active
      score := fun k hk => by cases hk; exact hn }, hx.silence, hx.polls, hx.relapses⟩

/-- The timer of a record that may have one or none. -/
theorem Home.keeps_timer {timer : Option Nat} (htimer : timerFits x.record.state timer) :
    x.keeps c { x with record := { x.record with stateTimer := timer } } where
  state := rfl
  serial := rfl
  tier := rfl
  sound := fun hx => ⟨{ hx.inv with timer := htimer }, hx.silence, hx.polls, hx.relapses⟩

theorem Home.keeps_relapses {f : Option Nat} (hf : f.isSome = x.record.relapses.isSome)
    (hle : x.sound c → ∀ n, f = some n → n ≤ c.relapseLimit) :
    x.keeps c { x with record := { x.record with relapses := f } } where
  state := rfl
  serial := rfl
  tier := rfl
  sound := fun hx => ⟨{ hx.inv with tiered := by simpa [hf] using hx.inv.tiered }, hx.silence, hx.polls,
    hle hx⟩

theorem Home.keeps_trim (hactive : x.record.state = .active) {eqd : Nat} (heqd : eqd ≤ 12800) :
    x.keeps c { x with
      record := { x.record with eqd := some eqd, rtt := some (Config.referenceTrip - eqd) }
      trimHold := some Config.trimHoldRounds } where
  state := rfl
  serial := rfl
  tier := rfl
  sound := fun hx => ⟨{ hx.inv with
      present := by
        have hpresent := hx.inv.present
        simp only [List.mem_cons, List.not_mem_nil, or_false, forall_eq_or_imp, forall_eq, hactive, ne_eq,
          reduceCtorEq, not_false_eq_true, decide_true] at hpresent
        simp [hactive, hpresent]
      beside := fun hnot => absurd hactive hnot
      delay := fun r e hr he => by cases hr; cases he; simp only [Config.referenceTrip]; omega
      trimHold := fun n hn => by cases hn; exact Nat.le_refl 16 },
    hx.silence, hx.polls, hx.relapses⟩

theorem Home.keeps_trimHold {hold : Option Nat} (hle : ∀ n, hold = some n → ∃ m, x.trimHold = some m ∧ n ≤ m) :
    x.keeps c { x with trimHold := hold } where
  state := rfl
  serial := rfl
  tier := rfl
  sound := fun hx => ⟨{ hx.inv with
      beside := fun hnot => ⟨(hx.inv.beside hnot).1, Option.eq_none_iff_forall_ne_some.mpr fun n hn => by
        obtain ⟨m, hm, -⟩ := hle n hn
        rw [(hx.inv.beside hnot).2] at hm
        cases hm⟩
      trimHold := fun n hn => by
        obtain ⟨m, hm, hnm⟩ := hle n hn
        exact hnm.trans (hx.inv.trimHold m hm) }, hx.silence, hx.polls, hx.relapses⟩

theorem Home.keeps_reportSlot (hactive : x.record.state = .active) {n : Nat} (hn : n ≤ 65535) :
    x.keeps c { x with reportSlot := some n } where
  state := rfl
  serial := rfl
  tier := rfl
  sound := fun hx => ⟨{ hx.inv with
      beside := fun hnot => absurd hactive hnot
      backlog := fun k hk => by
        rcases hk with hk | hk
        · exact hx.inv.backlog k (.inl hk)
        · cases hk; exact hn }, hx.silence, hx.polls, hx.relapses⟩

theorem Home.keeps.trans {x y z : Home} (p : x.keeps c y) (q : y.keeps c z) : x.keeps c z :=
  ⟨q.state.trans p.state, q.serial.trans p.serial, q.tier.trans p.tier, fun h => q.sound (p.sound h)⟩

/-- A home at a round opening: its timers count. -/
theorem Home.keeps_atOpening (c : Settings) (x : Home) : x.keeps c x.atOpening where
  state := rfl
  serial := rfl
  tier := rfl
  sound := fun hx => by
    obtain ⟨hrest, hruns⟩ := hx.inv.timer
    refine Home.keeps.sound (Home.keeps.trans (y := { x with record := { x.record with
      stateTimer := tick x.record.stateTimer } }) (Home.keeps_timer ⟨fun h => ?_, fun h => ?_⟩)
      (Home.keeps_trimHold fun n hn => ?_)) hx
    · rw [hrest h]; rfl
    · simpa [tick] using hruns h
    · obtain ⟨m, hm, rfl⟩ := Option.map_eq_some_iff.mp hn
      exact ⟨m, hm, Nat.sub_le m 1⟩

/-- A home after a plan build: its backlog on record, poll countdown and report slot move on. -/
theorem Home.keeps_afterBuild (hpoll : 0 < c.pollEvery) (x : Home) (grant : Option Nat) :
    x.keeps c (x.afterBuild c.pollEvery grant) := by
  unfold Home.afterBuild
  split
  · next hactive =>
    refine ⟨rfl, rfl, rfl, fun hx => ⟨{ hx.inv with
      active := ?_, beside := fun hnot => absurd hactive hnot, backlog := fun n hn => ?_ },
      hx.silence, fun n hn => ?_, hx.relapses⟩⟩
    · have hshape := hx.inv.active
      simp only [List.mem_cons, List.not_mem_nil, or_false, forall_eq_or_imp, forall_eq, hactive,
        decide_true] at hshape
      simp [hactive, hshape]
    · rcases hn with hn | hn
      · cases hn
        cases hslot : x.reportSlot with
        | some k => exact hx.inv.backlog k (.inr hslot)
        | none =>
          refine (Nat.sub_le _ _).trans ?_
          unfold HomeRecord.waiting
          cases hbacklog : x.record.backlog with
          | none => exact Nat.zero_le _
          | some k => exact hx.inv.backlog k (.inl hbacklog)
      · cases hn
    · cases hn
      cases grant with
      | some _ => exact Nat.sub_lt hpoll Nat.one_pos
      | none =>
        refine (Nat.sub_le _ _).trans_lt ?_
        cases hcount : x.record.pollCountdown with
        | none => exact hpoll
        | some k => exact hx.polls k hcount
  · exact Home.keeps_refl c x

/-- A home at a round receive end: its counts alone change. -/
theorem Home.keeps_countRound (c : Settings) (x : Home) (impaired : Bool) :
    x.keeps c (x.countRound impaired) := by
  unfold Home.countRound
  split
  · exact Home.keeps_usage c x (by simp)
  · exact Home.keeps_refl c x

end fields

end Sys2Proof.Machine
end

section
/-! SUPPORT. The Home Table over the units of the Controller, the Monitor and the Meter that change records
(chapters 2, 4, 7 and 8). -/

namespace Sys2Proof.Machine

section units
variable {s : State} {t : TreeId} {h : HomeIdx}

theorem TableInv.modRecord (hi : TableInv s) (t : TreeId) (h : HomeIdx) (f : HomeRecord → HomeRecord)
    (hf : (s.home t h).keeps s.cfg { s.home t h with record := f (s.record t h) }) :
    TableInv (s.modRecord t h f) :=
  hi.modHome t h _ hf

/-! ### Quota and counts (R146, R147, R151, R153, R168, R169) -/

theorem TableInv.evaluateQuota (hi : TableInv s) (t : TreeId) (h : HomeIdx) :
    TableInv (s.evaluateQuota t h) := by
  unfold State.evaluateQuota
  split
  · next hset =>
    refine (hi.modRecord t h _ (Home.keeps_throttled _ _ ?_)).post _ _ _
    simp only [Bool.and_eq_true, decide_eq_true_eq] at hset
    rw [show (s.home t h).record.throttled = some false from hset.2]
    rfl
  · exact hi

theorem TableInv.reviewQuota (hi : TableInv s) (t : TreeId) (h : HomeIdx) : TableInv (s.reviewQuota t h) := by
  have hevaluated := hi.evaluateQuota t h
  unfold State.reviewQuota State.clearThrottle
  split
  · exact hevaluated
  · exact hevaluated.modRecord t h _ (Home.keeps_throttled _ _ (Option.isSome_map ..))

theorem TableInv.modUsage (hi : TableInv s) (t : TreeId) (h : HomeIdx) (f : UsageEntry → UsageEntry) :
    TableInv (s.modUsage t h f) :=
  hi.modHome t h _ (Home.keeps_usage _ _ (Option.isSome_map ..))

theorem TableInv.countUp (hi : TableInv s) (t : TreeId) (h : HomeIdx) (bytes : Nat) :
    TableInv (s.countUp t h bytes) := by
  unfold State.countUp
  split
  · exact hi
  · dsimp only
    split
    · exact (hi.modUsage t h _).evaluateQuota t h
    · exact hi.modUsage t h _

theorem TableInv.countDown (hi : TableInv s) (t : TreeId) (h : HomeIdx) (bytes : Nat) :
    TableInv (s.countDown t h bytes) := by
  unfold State.countDown
  split
  · exact hi
  · dsimp only
    split
    · exact (hi.modUsage t h _).evaluateQuota t h
    · exact hi.modUsage t h _

theorem TableInv.commitRecord (hi : TableInv s) (r : SnapshotRecord) : TableInv (s.commitRecord r) := by
  unfold State.commitRecord
  split
  · split
    · exact (hi.modUsage _ _ _).reviewQuota _ _
    · exact hi
  all_goals exact hi

theorem TableInv.mergeRecord (hi : TableInv s) (r : SnapshotRecord) : TableInv (s.mergeRecord r) := by
  unfold State.mergeRecord
  split
  · split
    · exact (hi.modUsage _ _ _).evaluateQuota _ _
    · exact hi.modMeter _
  all_goals exact hi

theorem TableInv.foldl {α : Type} {f : State → α → State} (hf : ∀ {a : State} x, TableInv a → TableInv (f a x))
    (hi : TableInv s) (l : List α) : TableInv (l.foldl f s) := by
  induction l generalizing s with
  | nil => exact hi
  | cons x l ih => exact ih (hf x hi)

/-! ### Replies (R68 to R72) -/

theorem TableInv.contest (hi : TableInv s) (t : TreeId) (h : HomeIdx) : TableInv (s.contest t h) :=
  hi.modRecord t h _ (Home.keeps_contested _ _)

theorem TableInv.postClone (hi : TableInv s) (t : TreeId) (h : HomeIdx) (source : CloneSource)
    (replyTree rtt : Nat) (level : Int) (peer : Nat) :
    TableInv (s.postClone t h source replyTree rtt level peer) :=
  hi.post _ _ _

theorem TableInv.modFigures (hi : TableInv s) (t : TreeId) (f : EnrolFigures → EnrolFigures) :
    TableInv (s.modFigures t f) :=
  hi.of_traffic _ rfl rfl fun _ => id

variable {rtt : Nat} {level : Int}

theorem TableInv.ranged (hi : TableInv s) (hheld : (s.record t h).state ≠ .free) (hrtt : rtt ≤ 12800)
    (hlevel : levelInRange level) : TableInv (s.modRecord t h (fun r => r.ranged rtt level)) :=
  hi.modRecord t h _ (Home.keeps_ranged hheld hrtt hlevel)

theorem TableInv.renewDelay (hi : TableInv s) (hheld : (s.record t h).state ≠ .free) (hrtt : rtt ≤ 12800)
    (hlevel : levelInRange level) : TableInv (s.renewDelay t h rtt level) :=
  (hi.ranged hheld hrtt hlevel).queueWord (hi.enabled_of_held hheld) _

theorem TableInv.reenrol (hi : TableInv s) (hin : settingsInRange s.cfg) (hlost : (s.record t h).state = .lost)
    (hrtt : rtt ≤ 12800) (hlevel : levelInRange level) : TableInv (s.reenrol t h rtt level) := by
  have hheld : (s.record t h).state ≠ .free := by rw [hlost]; decide
  have hstate : ((s.modRecord t h (fun r => r.ranged rtt level)).record t h).state = .lost := by
    rw [State.record_modRecord_self]; exact hlost
  exact (hi.ranged hheld hrtt hlevel).changeState_queueWord hin (by rw [hstate]; decide)
    (by rw [hstate]; rfl) ⟨fun _ => rfl, by simp⟩ (by decide) (fun p hp => by cases hp) _

/-- The index with the serial of a record just allocated. -/
theorem State.listed.allocated {u : State} {serial : Serial} (hl : s.listed)
    (hnew : s.lookup serial = none) (hindex : u.serialIndex = s.serialIndex ++ [⟨serial, t, h⟩])
    (hfree : (s.record t h).state = .free) (hstate : (u.record t h).state ≠ .free)
    (hserial : (u.record t h).serial = some serial)
    (hothers : ∀ v k, ¬ (v = t ∧ k = h) → u.record v k = s.record v k) : u.listed := by
  have hunlisted : ∀ e ∈ s.serialIndex, e.serial ≠ serial := by
    intro e he hsame
    simp only [State.lookup, Option.map_eq_none_iff, List.find?_eq_none] at hnew
    exact hnew e he (by simpa using hsame)
  refine ⟨?_, fun x v k => ?_⟩
  · rw [hindex, List.map_append, List.map_singleton]
    refine List.nodup_append.mpr ⟨hl.serials, List.nodup_singleton _, fun a ha b hb => ?_⟩
    obtain ⟨e, he, rfl⟩ := List.mem_map.mp ha
    rw [List.mem_singleton.mp hb]
    exact hunlisted e he
  · rw [hindex, List.mem_append, List.mem_singleton, hl.index x v k]
    by_cases hvk : v = t ∧ k = h
    · obtain ⟨rfl, rfl⟩ := hvk
      simp [hfree, hstate, hserial, eq_comm]
    · rw [hothers v k hvk]
      refine or_iff_left fun hsame => hvk ?_
      cases hsame
      exact ⟨rfl, rfl⟩

/-- A home just allocated has the shape of CLAIMING. -/
theorem State.allocated_sound (s : State) {c : Settings} (serial : Serial) (husage : (s.home t h).usage = none)
    (hrtt : rtt ≤ 12800) (hlevel : levelInRange level) : (s.allocated t h serial rtt level).sound c where
  inv :=
    { present := by simp [State.allocated]
      tiered := by simp [State.allocated, HomeRecord.reset, isTiered, husage]
      active := by simp [State.allocated, HomeRecord.reset]
      beside := fun _ => ⟨rfl, rfl⟩
      timer := ⟨fun _ => rfl, by simp [State.allocated]⟩
      delay := fun r e hr he => by cases hr; cases he; omega
      generation := Nat.mod_lt _ (by decide)
      contested := fun n hn => by cases hn; exact Nat.zero_le _
      score := fun n hn => by cases hn
      trimHold := fun n hn => by cases hn
      backlog := fun n hn => by rcases hn with hn | hn <;> cases hn
      levels := fun n hn => by rcases hn with hn | hn <;> cases hn <;> exact hlevel }
  silence := fun n hn => by cases hn
  polls := fun n hn => by cases hn
  relapses := fun n hn => by cases hn

theorem TableInv.usage_of_free (hi : TableInv s) (hfree : (s.record t h).state = .free) :
    (s.home t h).usage = none := by
  have hshape := (hi.homes t h).tiered ((s.home t h).usage.isSome) (by simp)
  rw [show (s.home t h).record.state = .free from hfree] at hshape
  exact Option.not_isSome_iff_eq_none.mp fun hsome => absurd (hsome.symm.trans hshape) (by decide)

theorem TableInv.enrolAt (hi : TableInv s) (hon : s.enabled t = true) {serial : Serial}
    (hnew : s.lookup serial = none) (hfree : (s.record t h).state = .free) (hrtt : rtt ≤ 12800)
    (hlevel : levelInRange level) : TableInv (s.enrolAt t h serial rtt level) := by
  obtain ⟨hhome, -, hindex, -, hlight, htraffic, honly⟩ := s.enrolAt_spec t h serial rtt level
  have hrecord : (s.enrolAt t h serial rtt level).record t h = (s.allocated t h serial rtt level).record := by
    rw [State.record, hhome]
  refine hi.of_onlyHome honly hon (hi.listed.allocated hnew hindex hfree
    (by rw [hrecord]; exact fun hstate => RecordState.noConfusion hstate) (by rw [hrecord]; rfl) honly.record_other) ?_ ?_ ?_ ?_
  · exact (s.keepsUndos_postEntry _).trans (State.keepsUndos_of_inFlight htraffic.2.1)
  · rw [hhome]
    exact s.allocated_sound serial (hi.usage_of_free hfree) hrtt hlevel
  · have hsum := State.crSum_change (t := t) honly.cfg fun k hk => honly.record hk
    have hnone : s.crOf ((s.enrolAt t h serial rtt level).record t h) = 0 := by
      rw [hrecord]; rfl
    have hadmitted := hi.admitted t
    omega
  · rw [hlight]; exact Light.keeps_refl _ _

theorem TableInv.enrolNew (hi : TableInv s) (hon : s.enabled t = true) {serial : Serial}
    (hnew : s.lookup serial = none) (hrtt : rtt ≤ 12800) (hlevel : levelInRange level) :
    TableInv (s.enrolNew t serial rtt level) := by
  unfold State.enrolNew
  split
  · next h hlow => exact hi.enrolAt hon hnew (State.lowestFree_free hlow) hrtt hlevel
  · exact hi.modFigures t _

/-- The serial that the index finds is that of the record, and no other holds it. -/
theorem TableInv.lookup_held (hi : TableInv s) {serial : Serial} (hfound : s.lookup serial = some (t, h)) :
    (s.record t h).state ≠ .free ∧ (s.record t h).serial = some serial := by
  obtain ⟨e, he, heq⟩ := Option.map_eq_some_iff.mp hfound
  have hmem := List.mem_of_find?_eq_some he
  have hserial : e.serial = serial := by simpa using List.find?_some he
  cases heq
  subst hserial
  exact (hi.index e.serial e.tree e.home).mp hmem

theorem TableInv.lookup_none (hi : TableInv s) {serial : Serial}
    (hnone : ∀ v k, (s.record v k).state ≠ .free → (s.record v k).serial ≠ some serial) :
    s.lookup serial = none := by
  cases hfound : s.lookup serial with
  | none => rfl
  | some p => exact absurd (hi.lookup_held hfound).2 (hnone p.1 p.2 (hi.lookup_held hfound).1)

/-- A serial is held by one record alone. -/
theorem TableInv.serial_unique (hi : TableInv s) {serial : Serial} {v : TreeId} {k : HomeIdx}
    (hheld : (s.record t h).state ≠ .free) (hserial : (s.record t h).serial = some serial)
    (hheld' : (s.record v k).state ≠ .free) (hserial' : (s.record v k).serial = some serial) :
    v = t ∧ k = h := by
  have hone := (hi.index serial t h).mpr ⟨hheld, hserial⟩
  have hother := (hi.index serial v k).mpr ⟨hheld', hserial'⟩
  have hsame := List.inj_on_of_nodup_map hi.serials hother hone rfl
  cases hsame
  exact ⟨rfl, rfl⟩

theorem TableInv.moveHome (hi : TableInv s) (hin : settingsInRange s.cfg) (hon : s.enabled t = true)
    {v : TreeId} {serial : Serial} (hfound : s.lookup serial = some (v, h)) (hrtt : rtt ≤ 12800)
    (hlevel : levelInRange level) : TableInv (s.moveHome t v h serial rtt level) := by
  obtain ⟨hheld, hserial⟩ := hi.lookup_held hfound
  unfold State.moveHome
  split
  · have hleft := hi.departWithDismiss hin hheld .moved (cause := .moved) (by decide) (fun p hp => by cases hp)
    have hcalm := s.calm_departWithDismiss v h .moved .moved
    obtain ⟨hhome, -, -, -, -, honly⟩ :=
      s.freed_departWithDismiss v h .moved .moved (by decide) (by simp)
    refine hleft.enrolNew ((State.enabled_of_figures hcalm.figures t).trans hon) ?_ hrtt hlevel
    refine hleft.lookup_none fun w k hw hsame => ?_
    by_cases hwk : w = v ∧ k = h
    · obtain ⟨rfl, rfl⟩ := hwk
      rw [State.record, hhome] at hw
      exact hw rfl
    · rw [honly.record_other w k hwk] at hw hsame
      exact hwk (hi.serial_unique hheld hserial hw hsame)
  · exact hi.modFigures t _

theorem TableInv.clone (hi : TableInv s) (replyTree v : TreeId) (k : HomeIdx) (rtt : Nat) (level : Int) :
    TableInv (s.clone replyTree v k rtt level) :=
  (hi.contest v k).postClone _ _ _ _ _ _ _

theorem TableInv.acceptReply (hi : TableInv s) (hin : settingsInRange s.cfg) (hon : s.enabled t = true)
    (serial : Serial) (hrtt : rtt ≤ 12800) (hlevel : levelInRange level) :
    TableInv (s.acceptReply t serial rtt level) := by
  unfold State.acceptReply
  split
  · next hnew => exact hi.enrolNew hon hnew hrtt hlevel
  · next v k hfound =>
    have hheld := (hi.lookup_held hfound).1
    split
    · next hlost htree =>
      cases of_decide_eq_true htree
      exact hi.reenrol hin hlost hrtt hlevel
    · exact hi.moveHome hin hon hfound hrtt hlevel
    · next htree =>
      cases of_decide_eq_true htree
      exact hi.renewDelay hheld hrtt hlevel
    · next htree =>
      cases of_decide_eq_true htree
      exact hi.renewDelay hheld hrtt hlevel
    · exact hi.clone _ _ _ _ _
    · exact hi.clone _ _ _ _ _
    · exact hi.clone _ _ _ _ _
    · exact hi.clone _ _ _ _ _
    · exact hi.queueWord hon _
    · exact hi
    · exact hi

theorem TableInv.takeReply (hi : TableInv s) (hin : settingsInRange s.cfg) {reply : ReplyRecord}
    (hon : ∀ round v serial delay offset level, reply = .valid round v serial delay offset level →
      s.enabled v = true) : TableInv (s.takeReply reply) := by
  have hlevels := hin
  obtain ⟨-, -, -, hmin, -, hmax, -⟩ := hlevels
  cases reply with
  | garbled round v => exact hi.modFigures v (fun e => { e with garbled := bump e.garbled })
  | valid round v serial delay offset level =>
    unfold State.takeReply
    dsimp only
    split
    · exact hi.modFigures v _
    · next hrange =>
      split
      · exact hi.modFigures v _
      · next hlevel =>
        rw [not_or, not_lt, not_lt] at hrange hlevel
        refine hi.acceptReply hin (hon _ _ _ _ _ _ rfl) serial ?_
          ⟨hmin.trans hlevel.1, hlevel.2.trans hmax⟩
        have hhigh : roundTrip offset delay ≤ 12800 := hrange.2
        omega

/-! ### Claims, objections and requests (R37 to R40, R73 to R80) -/

theorem TableInv.barByPeer (hi : TableInv s) (hin : settingsInRange s.cfg)
    (hclaiming : (s.record t h).state = .claiming) (peer : Nat) : TableInv (s.barByPeer t h peer) :=
  (hi.changeState_queueWord hin (by rw [hclaiming]; decide) (by rw [hclaiming]; rfl)
    ⟨by simp, fun _ => by simp⟩ (by decide) (fun p hp => by cases hp) _).postClone _ _ _ _ _ _ _

theorem TableInv.answerClaim (hi : TableInv s) (hin : settingsInRange s.cfg) (peer : Nat) (serial : Serial)
    (tree index : Nat) (t : TreeId) (h : HomeIdx) :
    TableInv (s.answerClaim peer serial tree index t h) := by
  have hposted : TableInv (s.objectTo peer serial tree index) := hi.post _ _ _
  have hsame : (s.objectTo peer serial tree index).record t h = s.record t h := s.post_record _ _ _ _ _
  have hcfg : (s.objectTo peer serial tree index).cfg = s.cfg := s.post_cfg _ _ _
  unfold State.answerClaim
  split
  · exact hposted.contest t h
  · exact hposted.contest t h
  · exact hposted.contest t h
  · next hstate => exact hposted.barByPeer (by rw [hcfg]; exact hin) (by rw [hsame]; exact hstate) peer
  · next hstate =>
    exact hi.departWithDismiss hin (by rw [hstate]; decide) _ (by decide) (fun p hp => by cases hp)
  · exact hposted
  · exact hi

theorem TableInv.answerObject (hi : TableInv s) (hin : settingsInRange s.cfg) (peer : Nat) (t : TreeId)
    (h : HomeIdx) : TableInv (s.answerObject peer t h) := by
  unfold State.answerObject
  split
  · next hstate => exact hi.barByPeer hin hstate peer
  · exact (hi.contest t h).postClone _ _ _ _ _ _ _
  · exact (hi.contest t h).postClone _ _ _ _ _ _ _
  all_goals exact hi

theorem TableInv.refuseHome (hi : TableInv s) (hin : settingsInRange s.cfg)
    (hheld : (s.record t h).state ≠ .free) : TableInv (s.refuseHome t h) := by
  refine (hi.leaves hin hheld .refused rfl ⟨by simp, fun _ => by simp⟩ (by decide)
    (fun p hp => by cases hp)).queueWord ?_ _
  rw [State.enabled_of_figures
    ((s.calm_handOffTiered t h .refused).trans (State.calm_changeState _ t h _ _ _)).figures t]
  exact hi.enabled_of_held hheld

theorem TableInv.releaseHome (hi : TableInv s) (hin : settingsInRange s.cfg) (sender : Nat) (serial : Serial)
    (t : TreeId) (h : HomeIdx) : TableInv (s.releaseHome sender serial t h) := by
  unfold State.releaseHome
  split
  · next hstate =>
    exact (hi.changeState_queueWord hin (by rw [hstate]; decide) (by rw [hstate]; rfl)
      ⟨fun _ => rfl, by simp⟩ (by decide) (fun p hp => by cases hp) _).post _ _ _
  · next hstate =>
    exact (hi.freeWithDismiss hin (by rw [hstate]; decide) (by rw [hstate]; rfl) (by decide)
      (fun p hp => by cases hp)).post _ _ _
  all_goals exact hi.post _ _ _

theorem TableInv.admitHome (hi : TableInv s) (hin : settingsInRange s.cfg)
    (hawaiting : (s.record t h).state = .awaiting) (tier : Fin 8) (quota : Nat)
    (hroom : s.crSum t + (s.rates tier).cr ≤ s.cfg.admitCap) : TableInv (s.admitHome t h tier quota) := by
  have hheld : (s.record t h).state ≠ .free := by rw [hawaiting]; decide
  have hready := (hi.homes t h).readyFor hheld (new := .claiming) (fun hnew => by cases hnew)
  unfold State.admitHome
  refine hi.enters hin hheld (s.modRecord_onlyHome t h _) (s.keepsUndos_of_inFlight rfl) rfl
    (by rw [State.tree_modRecord_self]; rfl) (by rw [State.record_modRecord_self]) ?_ ⟨fun _ => rfl, by simp⟩
    (fun p hp => by cases hp) ?_ rfl fun _ => ?_
  · rw [State.record_modRecord_self]
    exact ⟨fun _ => hready.held (by decide), fun _ => by simp, hready.delay, hready.generation,
      hready.contested, hready.levels⟩
  · rw [State.record_modRecord_self]
    intro n hn
    cases hn
    exact Nat.zero_le _
  · rw [State.record_modRecord_self]
    exact hroom.trans (Nat.le_add_right _ _)

theorem TableInv.changeTier (hi : TableInv s) (htiered : isTiered (s.record t h).state = true) (tier : Fin 8)
    (quota : Nat)
    (hroom : s.crSum t - (s.ratesOf (s.record t h)).cr + (s.rates tier).cr ≤ s.cfg.admitCap) :
    TableInv (s.changeTier t h tier quota) := by
  have hheld : (s.record t h).state ≠ .free := by
    intro hfree
    rw [hfree] at htiered
    cases htiered
  have honly := s.modRecord_onlyHome t h (fun r => { r with tier := some tier, quota := some quota })
  have hrecord := s.record_modRecord_self t h (fun r => { r with tier := some tier, quota := some quota })
  unfold State.changeTier
  refine TableInv.reviewQuota (hi.of_onlyHome honly (hi.enabled_of_held hheld) ?_ ?_ ?_ ?_ ?_) t h
  · refine hi.listed.congr rfl fun v k => ?_
    by_cases hvk : v = t ∧ k = h
    · obtain ⟨rfl, rfl⟩ := hvk
      rw [hrecord]
      exact ⟨Iff.rfl, rfl⟩
    · rw [honly.record_other v k hvk]
      exact ⟨Iff.rfl, rfl⟩
  · exact s.keepsUndos_of_inFlight rfl
  · have hsound := hi.home t h
    have hshape := hsound.inv.tiered
    simp only [List.mem_cons, List.not_mem_nil, or_false, forall_eq_or_imp, forall_eq,
      show isTiered (s.home t h).record.state = true from htiered] at hshape
    rw [State.modRecord, State.home_modHome_self]
    exact ⟨{ hsound.inv with
      tiered := by simp [show isTiered (s.home t h).record.state = true from htiered, hshape] },
      hsound.silence, hsound.polls, hsound.relapses⟩
  · have hsum := State.crSum_change (t := t) honly.cfg fun k hk => honly.record hk
    have hbefore : s.crOf (s.record t h) = (s.ratesOf (s.record t h)).cr := if_pos htiered
    have hafter : s.crOf ((s.modRecord t h (fun r =>
        { r with tier := some tier, quota := some quota })).record t h) = (s.rates tier).cr := by
      rw [hrecord]
      exact if_pos htiered
    omega
  · rw [State.tree_modRecord_self]; exact Light.keeps_refl _ _

theorem TableInv.admitAt (hi : TableInv s) (hin : settingsInRange s.cfg) (sender : Nat) (serial : Serial)
    (tier : Fin 8) (quota : Nat) (t : TreeId) (h : HomeIdx) :
    TableInv (s.admitAt sender serial tier quota t h) := by
  unfold State.admitAt
  split
  · next hstate =>
    split
    · next hroom => exact (hi.admitHome hin hstate tier quota hroom).post _ _ _
    · exact hi.post _ _ _
  · next hstate =>
    split
    · next hroom => exact (hi.changeTier (by rw [hstate]; rfl) tier quota hroom).post _ _ _
    · exact hi.post _ _ _
  · next hstate =>
    split
    · next hroom => exact (hi.changeTier (by rw [hstate]; rfl) tier quota hroom).post _ _ _
    · exact hi.post _ _ _
  · next hstate =>
    split
    · next hroom => exact (hi.changeTier (by rw [hstate]; rfl) tier quota hroom).post _ _ _
    · exact hi.post _ _ _
  all_goals exact hi.post _ _ _

/-! ### The Monitor's requests (R125, R136, R137, R140) -/

theorem TableInv.setScore (hi : TableInv s) (t : TreeId) (h : HomeIdx) {f : Nat → Nat}
    (hf : ∀ n, n ≤ 31 → f n ≤ 31) : TableInv (s.setScore t h f) := by
  unfold State.setScore
  split
  · exact hi
  · next n hscore =>
    have hset := hi.modRecord t h (fun r => { r with rogueScore := some (f n) })
      (Home.keeps_rogueScore hscore (hf n ((hi.homes t h).score n hscore)))
    dsimp only
    split
    · exact hset.raise (by simp)
    · exact hset

theorem TableInv.alarmRelapseLimit (hi : TableInv s) (t : TreeId) (h : HomeIdx) :
    TableInv (s.alarmRelapseLimit t h) := by
  unfold State.alarmRelapseLimit
  split
  · exact hi.alarm _
  · exact hi

theorem TableInv.recordOutcome (hi : TableInv s) (t : TreeId) (h : HomeIdx) (generation : Nat)
    {o : SearchOutcome} (ho : outcomeWithin s.cfg.relapseLimit o) :
    TableInv (s.recordOutcome t h generation o) := by
  rw [State.recordOutcome_eq]
  exact hi.setLight t _ (Light.keeps_withOutcome _ h generation ho)

theorem TableInv.searchQuench (hi : TableInv s) (hin : settingsInRange s.cfg) (t : TreeId) (h : HomeIdx)
    (generation : Nat) : TableInv (s.searchQuench t h generation) := by
  have hwithin : ∀ state, outcomeWithin s.cfg.relapseLimit (.moved state (s.record t h).relapses)
      ∧ outcomeWithin s.cfg.relapseLimit (.held state (s.record t h).relapses) :=
    fun _ => ⟨hi.relapses t h, hi.relapses t h⟩
  have hcfg : ∀ new timer cause, ((s.changeState t h new timer cause).queueWord t (.darken h)).cfg = s.cfg :=
    fun _ _ _ => ((s.calm_changeState t h _ _ _).trans (State.calm_queueWord _ t _)).figures.cfg
  unfold State.searchQuench
  dsimp only
  split
  case h_1 hstate | h_2 hstate =>
    refine TableInv.alarmRelapseLimit (TableInv.recordOutcome (hi.changeState_queueWord hin
      (by rw [hstate]; decide) (by rw [hstate]; rfl) ⟨by simp, by simp⟩ (by decide)
      (fun p hp => by cases hp) _) t h generation ?_) t h
    rw [hcfg]; exact (hwithin _).1
  case h_3 hstate | h_4 hstate =>
    refine TableInv.recordOutcome (hi.changeState_queueWord hin
      (by rw [hstate]; decide) (by rw [hstate]; rfl) ⟨by simp, by simp⟩ (by decide)
      (fun p hp => by cases hp) _) t h generation ?_
    rw [hcfg]; exact (hwithin _).1
  case h_5 hstate =>
    have hheld : (s.record t h).state ≠ .free := by rw [hstate]; decide
    refine (TableInv.recordOutcome (TableInv.queueWord (hi.modRecord t h _ ?_)
      (hi.enabled_of_held hheld) _) t h generation (hwithin _).2).alarm _
    refine Home.keeps.trans (y := { s.home t h with record := { s.record t h with stateTimer := none } })
      (Home.keeps_timer ⟨fun _ => rfl, ?_⟩) (Home.keeps_relapses ?_ fun _ n hn => ?_)
    · rw [show (s.home t h).record.state = .quenched from hstate]; simp
    · have hshape := (hi.homes t h).tiered ((s.record t h).relapses.isSome) (by simp [State.record])
      rw [show (s.home t h).record.state = .quenched from hstate] at hshape
      exact hshape.symm
    · cases hn; exact Nat.le_refl _
  case h_6 hstate =>
    exact (TableInv.recordOutcome (hi.queueWord (hi.enabled_of_held (by rw [hstate]; decide)) _) t h
      generation (hwithin _).2).alarm _
  case h_7 => exact hi

theorem TableInv.undo (hi : TableInv s) (hin : settingsInRange s.cfg) (t : TreeId) (h : HomeIdx)
    {o : SearchOutcome} (ho : outcomeWithin s.cfg.relapseLimit o) : TableInv (s.undo t h o) := by
  have hmoved : ∀ state prior, o = .moved state prior → Cause.within s.cfg.relapseLimit (.undo prior) :=
    fun state prior heq p hp n hn => by
      cases hp
      subst heq
      exact ho n hn
  unfold State.undo
  split
  · next prior hstate =>
    exact hi.changeState_queueWord hin (by rw [hstate]; decide) (by rw [hstate]; rfl) ⟨fun _ => rfl, by simp⟩
      (by simp) (hmoved _ prior rfl) _
  · next prior hstate =>
    exact hi.changeState_queueWord hin (by rw [hstate]; decide) (by rw [hstate]; rfl) ⟨fun _ => rfl, by simp⟩
      (by simp) (hmoved _ prior rfl) _
  · next prior hstate =>
    exact hi.changeState_queueWord hin (by rw [hstate]; decide) (by rw [hstate]; rfl)
      ⟨by simp, fun _ => by simp⟩ (by simp) (hmoved _ prior rfl) _
  · next prior hstate =>
    exact hi.changeState_queueWord hin (by rw [hstate]; decide) (by rw [hstate]; rfl)
      ⟨by simp, fun _ => by simp⟩ (by simp) (hmoved _ prior rfl) _
  · next prior hstate =>
    refine hi.modRecord t h _ (Home.keeps.trans (y := { s.home t h with record := { s.record t h with
      stateTimer := if prior.getD 0 < s.cfg.relapseLimit then some (startTimer s.cfg.quenchHold)
        else (s.record t h).stateTimer } })
      (Home.keeps_timer ⟨?_, ?_⟩) (Home.keeps_relapses (Option.isSome_map ..) fun hx n hn => ?_))
    · rw [show (s.home t h).record.state = .quenched from hstate]; simp
    · rw [show (s.home t h).record.state = .quenched from hstate]; simp
    · obtain ⟨m, hm, rfl⟩ := Option.map_eq_some_iff.mp hn
      cases prior with
      | none => exact hi.relapses t h m hm
      | some p => exact ho p rfl
  · exact hi

end units

end Sys2Proof.Machine
end

section
/-! SUPPORT. The Home Table over the units of the tree side: the Monitor's round receive end, the plan build,
the round header, the window and its arrivals, and the cut (chapters 1, 5, 7 and 9). -/

namespace Sys2Proof.Machine

/-! ### Light states that a tree comes to -/

/-- A light state other than OFF and VERIFY, on a tree that is not OFF. -/
theorem Light.keeps_on {limit : Nat} {l m : Light} (hl : l ≠ .off) (hm : m ≠ .off)
    (hverify : ∀ v, m ≠ .verify v) : l.keeps limit m :=
  ⟨iff_of_false hm hl, fun _ v _ hv => absurd hv (hverify v)⟩

/-- A verification on a tree that is not OFF, whose outcome is within RELAPSE_LIMIT. -/
theorem Light.keeps_verify {limit : Nat} {l : Light} {v : Verify} (hl : l ≠ .off)
    (hv : ∀ o, v.outcome = some o → outcomeWithin limit o) : l.keeps limit (.verify v) :=
  ⟨iff_of_false (fun h => Light.noConfusion h) hl, fun _ w o hw ho => by cases hw; exact hv o ho⟩

section monitor
variable {s : State} {t : TreeId}

theorem TableInv.setTestDark (hi : TableInv s) (t : TreeId) (f : HomeIdx → Option Bool) :
    TableInv (s.setTestDark t f) :=
  hi.mapHomes t _ fun h => Home.keeps_testDark _ _ (f h)

/-- The flags and the light state of a tree are set together. -/
theorem TableInv.setDark (hi : TableInv s) (t : TreeId) (f : HomeIdx → Option Bool) {l : Light}
    (hl : (s.tree t).light.keeps s.cfg.relapseLimit l) : TableInv ((s.setTestDark t f).setLight t l) :=
  (hi.setTestDark t f).setLight t l (by rw [State.tree_setTestDark_self]; exact hl)

theorem TableInv.enterForeign (hi : TableInv s) (hon : (s.tree t).light ≠ .off) (cause : AlarmCause) :
    TableInv (s.enterForeign t cause) :=
  (hi.setDark t _ (Light.keeps_on hon (by simp) (by simp))).alarm _

theorem TableInv.chooseHalf (hi : TableInv s) (hon : (s.tree t).light ≠ .off) (clearStreak : Nat)
    (candidates : List HomeIdx) : TableInv (s.chooseHalf t clearStreak candidates) :=
  hi.setDark t _ (Light.keeps_on hon (by simp) (by simp))

theorem TableInv.enterSearch (hi : TableInv s) (hon : (s.tree t).light ≠ .off) (cause : AlarmCause) :
    TableInv (s.enterSearch t cause) := by
  have halarmed : ∀ a, ((s.alarm a).tree t).light ≠ .off := fun a => by
    rw [State.alarm, State.post_tree]; exact hon
  unfold State.enterSearch
  dsimp only
  split
  · exact (hi.alarm _).enterForeign (halarmed _) _
  · exact (hi.alarm _).chooseHalf (halarmed _) _ _

theorem TableInv.endSearch (hi : TableInv s) (hon : (s.tree t).light ≠ .off) (h : HomeIdx) :
    TableInv (s.endSearch t h) :=
  (hi.setDark t _ (Light.keeps_verify hon fun o ho => by cases ho)).raise (by simp)

theorem TableInv.judged (hi : TableInv s) (hon : (s.tree t).light ≠ .off) (clearStreak : Nat)
    (left : List HomeIdx) : TableInv (s.judged t clearStreak left) := by
  unfold State.judged
  split
  · exact hi.enterForeign hon _
  · exact hi.endSearch hon _
  · exact hi.chooseHalf hon _ _

theorem TableInv.keepClearStreak (hi : TableInv s) (hon : (s.tree t).light ≠ .off) (d : Search) (lit : Bool) :
    TableInv (s.keepClearStreak t d lit) := by
  unfold State.keepClearStreak
  split
  · exact hi.setLight t _ (Light.keeps_on hon (by simp) (by simp))
  · split
    · exact hi.setDark t _ (Light.keeps_on hon (by simp) (by simp))
    · exact hi.setLight t _ (Light.keeps_on hon (by simp) (by simp))

theorem TableInv.searchReceiveEnd (hi : TableInv s) (hon : (s.tree t).light ≠ .off) (d : Search)
    (round : Nat) (lit : Bool) : TableInv (s.searchReceiveEnd t d round lit) := by
  unfold State.searchReceiveEnd
  split
  · split
    · exact hi.judged hon _ _
    · exact hi.keepClearStreak hon d lit
  · split
    · exact hi.setLight t _ (Light.keeps_on hon (by simp) (by simp))
    · exact hi.keepClearStreak hon d lit
  · exact hi.keepClearStreak hon d lit

/-- An UNDO_REQUEST that carries an outcome within RELAPSE_LIMIT is sent. -/
theorem TableInv.raise_undo (hi : TableInv s) (h : HomeIdx) (generation : Nat) {o : Option SearchOutcome}
    (refuseNoted : Bool) (ho : ∀ p, o = some p → outcomeWithin s.cfg.relapseLimit p) :
    TableInv (s.raise (.undoRequest t h generation o refuseNoted)) := by
  refine (tableInv_iff _).mpr ⟨hi.settings, hi.tree, hi.admitted, ⟨hi.serials, hi.index⟩,
    fun v k g p r hm => ?_⟩
  rcases List.mem_append.mp hm with hm | hm
  · exact hi.undos v k g p r hm
  · cases List.mem_singleton.mp hm
    exact ho p rfl

theorem TableInv.endVerify (hi : TableInv s) (hon : (s.tree t).light ≠ .off) {v : Verify}
    (hv : ∀ o, v.outcome = some o → outcomeWithin s.cfg.relapseLimit o) : TableInv (s.endVerify t v) := by
  unfold State.endVerify
  split
  · exact (hi.raise_undo v.home v.generation v.refuseNoted hv).enterForeign hon _
  · refine (hi.alarm _).setLight t _ (Light.keeps_on ?_ (by simp) (by simp))
    rw [State.alarm, State.post_tree]
    exact hon

theorem TableInv.verifyReceiveEnd (hi : TableInv s) {v : Verify} (hnow : (s.tree t).light = .verify v)
    (round : Nat) (lit : Bool) : TableInv (s.verifyReceiveEnd t v round lit) := by
  have hon : (s.tree t).light ≠ .off := by rw [hnow]; simp
  have hwithin : ∀ o, v.outcome = some o → outcomeWithin s.cfg.relapseLimit o := fun o => hi.outcomes t v o hnow
  unfold State.verifyReceiveEnd
  split
  · exact hi
  · dsimp only
    split
    · split
      · exact hi.endVerify hon hwithin
      · exact hi.setLight t _ (Light.keeps_verify hon hwithin)
    · exact hi

theorem TableInv.monitorReceiveEnd (hi : TableInv s) (t : TreeId) (round : Nat) (lit : Bool) :
    TableInv (s.monitorReceiveEnd t round lit) := by
  unfold State.monitorReceiveEnd
  split
  · next streak hnow =>
    have hon : (s.tree t).light ≠ .off := by rw [hnow]; simp
    split
    · split
      · exact hi.enterSearch hon _
      · exact hi.setLight t _ (Light.keeps_on hon (by simp) (by simp))
    · exact hi.setLight t _ (Light.keeps_on hon (by simp) (by simp))
  · next d hnow => exact hi.searchReceiveEnd (by rw [hnow]; simp) d round lit
  · next v hnow => exact hi.verifyReceiveEnd hnow round lit
  · exact hi
  · exact hi

end monitor

section meter
variable {s : State}

/-! ### The Meter (R149, R164, R168 to R170) -/

theorem TableInv.countRounds (hi : TableInv s) (t : TreeId) (round : Nat) : TableInv (s.countRounds t round) :=
  hi.of_modTree _ ⟨fun k => by rw [Tree.home_mapHomes]; exact Home.keeps_countRound _ _ _,
    Light.keeps_refl _ _, fun _ => id⟩

theorem TableInv.cut (hi : TableInv s) (e : Readout) : TableInv (s.cut e) := by
  unfold State.cut
  split
  · exact hi
  · next t first hrange =>
    refine (hi.mapHomes t _ fun h => ?_).modMeter _
    split
    · exact Home.keeps_usage _ _ (Option.isSome_map ..)
    · exact Home.keeps_refl _ _

theorem TableInv.meterReceiveEnd (hi : TableInv s) (t : TreeId) (round : Nat) :
    TableInv (s.meterReceiveEnd t round) :=
  TableInv.foldl (fun e ha => ha.cut e) (hi.countRounds t round) _

theorem TableInv.commit (hi : TableInv s) (e : Readout) : TableInv (s.commit e) := by
  unfold State.commit
  split
  · exact (TableInv.foldl (fun r ha => ha.commitRecord r) hi _).modMeter _
  · exact hi.modMeter _

theorem TableInv.mergeBack (hi : TableInv s) (e : Readout) : TableInv (s.mergeBack e) := by
  unfold State.mergeBack
  split
  · exact (TableInv.foldl (fun r ha => ha.mergeRecord r) hi _).modMeter _
  · exact hi.modMeter _

theorem TableInv.answerRead (hi : TableInv s) (sender : Nat) (r : ReadRange) :
    TableInv (s.answerRead sender r) := by
  unfold State.answerRead
  split
  · split
    · exact hi.post _ _ _
    · exact (hi.modMeter _).post _ _ _
    · exact (hi.modMeter _).post _ _ _
  · split
    · exact (hi.modMeter _).post _ _ _
    · exact hi.post _ _ _

end meter

/-! ### The plan build (R86, R91, R92, R131) -/

section build
variable {s : State}

theorem TreeBuild.fit_tree (b : TreeBuild) : b.fit.tree = b.tree := by
  unfold TreeBuild.fit
  dsimp only
  split <;> rfl

theorem fitShare_trees (share : Nat) (bs : List TreeBuild) :
    (fitShare share bs).1.map TreeBuild.tree = bs.map TreeBuild.tree := by
  unfold fitShare
  dsimp only
  split
  · rfl
  · rw [List.map_map]; rfl

/-- A build makes one plan for each enabled tree, in ascending order. -/
theorem State.division_trees (s : State) : s.division.builds.map TreeBuild.tree = s.enabledTrees := by
  rw [State.division, fitShare_trees, List.map_map]
  conv_rhs => rw [← List.map_id s.enabledTrees]
  exact List.map_congr_left fun t _ => TreeBuild.fit_tree _

theorem State.enabled_of_build {b : TreeBuild} (hb : b ∈ s.division.builds) : s.enabled b.tree = true := by
  have hmem : b.tree ∈ s.enabledTrees := s.division_trees ▸ List.mem_map_of_mem hb
  exact (List.mem_filter.mp hmem).2

/-- The test round begun by a build keeps a tree's light state in SEARCH. -/
theorem Tree.keeps_setTestRound (c : Settings) (a : Tree) (round : Nat) : a.keeps c true (a.setTestRound round) := by
  refine ⟨fun h => ?_, ?_, fun hoff => (by cases hoff)⟩
  · rw [Tree.home, Tree.home, Tree.setTestRound_homes]; exact Home.keeps_refl _ _
  · unfold Tree.setTestRound
    split
    · next d hlight =>
      split
      · exact Light.keeps_on (by rw [hlight]; simp) (by simp) (by simp)
      · exact Light.keeps_refl _ _
      · exact Light.keeps_refl _ _
    all_goals exact Light.keeps_refl _ _

theorem Tree.keeps.trans {c : Settings} {on : Bool} {a b d : Tree} (p : a.keeps c on b) (q : b.keeps c on d) :
    a.keeps c on d :=
  ⟨fun h => (p.homes h).trans (q.homes h), ⟨q.light.off.trans p.light.off,
    fun hv => q.light.outcomes (p.light.outcomes hv)⟩, fun hoff ha => q.quiet hoff (p.quiet hoff ha)⟩

theorem State.keeps_treeAfterBuild (hpoll : 0 < s.cfg.pollEvery) (b : TreeBuild) :
    (s.tree b.tree).keeps s.cfg true (s.treeAfterBuild b) := by
  rw [State.treeAfterBuild_eq]
  refine Tree.keeps.trans ⟨fun h => ?_, ?_, fun hoff => (by cases hoff)⟩ (Tree.keeps_setTestRound _ _ _)
  · rw [State.builtTree_home]; exact Home.keeps_afterBuild hpoll _ _
  · rw [State.builtTree_light]; exact Light.keeps_refl _ _

theorem TableInv.buildPlans (hi : TableInv s) (hin : settingsInRange s.cfg) : TableInv s.buildPlans := by
  refine hi.of_keeps rfl rfl rfl (s.keepsUndos_of_inFlight rfl) fun v => ?_
  rcases s.buildPlans_tree v with hsame | ⟨b, hb, rfl, hbuilt⟩
  · rw [hsame]; exact Tree.keeps_refl _ _ _
  · rw [hbuilt, State.enabled_of_build hb]
    exact s.keeps_treeAfterBuild hin.positive.2 b

end build

/-! ### The round header and the window (R5, R11, R13, R138) -/

section line
variable {s : State} {t : TreeId}

theorem Light.keeps_afterHeader (limit : Nat) (l : Light) (round : Nat) (words : List ControlWord) :
    l.keeps limit (l.afterHeader round words) := by
  cases l with
  | verify v =>
    unfold Light.afterHeader
    dsimp only
    split
    · exact ⟨by simp, fun hv w o hw ho => hv v o rfl (by cases hw; exact ho)⟩
    · exact Light.keeps_refl _ _
  | _ => exact Light.keeps_refl _ _

theorem TableInv.sendHeader (hi : TableInv s) (hon : s.enabled t = true) : TableInv (s.sendHeader t) := by
  unfold State.sendHeader
  dsimp only
  exact (hi.of_modTree _ ⟨fun _ => Home.keeps_refl _ _, Light.keeps_afterHeader _ _ _ _,
    fun hoff => absurd (hon.symm.trans hoff) (by decide)⟩).emit _

theorem TableInv.refresh (hi : TableInv s) (hon : s.enabled t = true) (h : HomeIdx) :
    TableInv (s.refresh t h) := by
  unfold State.refresh
  split
  · exact hi.queueWord hon _
  · exact hi

/-- A window that is open belongs to an enabled tree. -/
theorem TableInv.enabled_of_window (hi : TableInv s) {w : Window} (hw : (s.tree t).rx.window = some w) :
    s.enabled t = true := by
  by_contra hoff
  obtain ⟨-, -, -, -, hnone, -⟩ := hi.disabled t (Bool.eq_false_iff.mpr hoff)
  rw [hw] at hnone
  cases hnone

/-- A change of an enabled tree that leaves its homes and its light state alone. -/
theorem TableInv.of_enabled (hi : TableInv s) (hon : s.enabled t = true) (f : Tree → Tree)
    (hhomes : (f (s.tree t)).homes = (s.tree t).homes) (hlight : (f (s.tree t)).light = (s.tree t).light) :
    TableInv (s.modTree t f) :=
  hi.of_traffic f hhomes hlight fun hoff => absurd (hon.symm.trans hoff) (by decide)

theorem TableInv.closeWindow (hi : TableInv s) (t : TreeId) (levels : List Int) :
    TableInv (s.closeWindow t levels) := by
  unfold State.closeWindow
  split
  · exact hi
  · next w hw =>
    exact ((hi.of_enabled (hi.enabled_of_window hw) _ rfl rfl).monitorReceiveEnd t _ _).meterReceiveEnd t _

theorem TableInv.openWindow (hi : TableInv s) (hon : s.enabled t = true) : TableInv (s.openWindow t) := by
  refine hi.of_enabled hon _ ?_ ?_
  · split <;> rfl
  · split <;> rfl

/-! ### Arrivals (R18, R22, R30, R32, R33, R83, R90, R123, R146) -/

section arrival
variable {a : ArrivalRecord}

theorem natOfBytes_lt (bytes : List Byte) : natOfBytes bytes < 256 ^ bytes.length := by
  induction bytes with
  | nil => exact Nat.one_pos
  | cons b bytes ih =>
    rw [natOfBytes_cons, List.length_cons, Nat.pow_succ]
    have hb : b.toNat < 256 := b.isLt
    have hprod : b.toNat * 256 ^ bytes.length ≤ 255 * 256 ^ bytes.length :=
      Nat.mul_le_mul_right _ (Nat.le_of_lt_succ hb)
    omega

theorem field_lt (off len : Nat) (bytes : List Byte) : field off len bytes < 256 ^ len :=
  (natOfBytes_lt _).trans_le (Nat.pow_le_pow_right (by decide) (List.length_take_le _ _))

theorem clampLevel_inRange (level : Int) : levelInRange (clampLevel level) := by
  unfold levelInRange clampLevel
  omega

/-- A burst's level and backlog report are within their ranges. -/
def BurstOutcome.inRange (o : BurstOutcome) : Prop :=
  (∀ level, o.level? = some level → levelInRange level)
    ∧ ∀ timing overrun offset level backlog used, o = .good timing overrun offset level backlog used →
      backlog ≤ 65535

theorem headerTaken_backlog {p : Plan} {g : Grant} {found : List FoundHeader} {f : FoundHeader}
    {b : BurstHeader} (htaken : p.headerTaken g found = some (f, b)) : b.backlog ≤ 65535 := by
  obtain ⟨f', -, hgood⟩ := List.mem_filterMap.mp (nearestHeader_spec htaken).1
  unfold Plan.goodFor at hgood
  split at hgood
  · cases hgood
  · next b' hread =>
    split at hgood
    · cases hgood
      unfold readBurstHeader at hread
      split at hread
      · cases hread
        exact Nat.le_of_lt_succ (field_lt 1 2 f.bytes)
      · cases hread
    · cases hgood

theorem settleGrant_inRange (litLevel : Int) (p : Plan) (g : Grant) (found : List FoundHeader)
    (light : BurstLight) : (settleGrant litLevel p g found light).1.inRange := by
  unfold settleGrant
  split
  · split
    · exact ⟨fun level hlevel => by cases hlevel; exact clampLevel_inRange _, fun _ _ _ _ _ _ h => by cases h⟩
    · exact ⟨fun level hlevel => (by cases hlevel), fun _ _ _ _ _ _ h => (by cases h)⟩
  · next f b htaken =>
    split
    · exact ⟨fun level hlevel => by cases hlevel; exact clampLevel_inRange _,
        fun _ _ _ _ _ _ h => by cases h; exact headerTaken_backlog htaken⟩
    · exact ⟨fun level hlevel => by cases hlevel; exact clampLevel_inRange _, fun _ _ _ _ _ _ h => by cases h⟩

theorem TableInv.discardUp (hi : TableInv s) (t : TreeId) : TableInv (s.discardUp t) :=
  hi.of_traffic _ rfl rfl fun _ => id

theorem TableInv.uplink (hi : TableInv s) (payload : List Byte) : TableInv (s.uplink a payload) := by
  unfold State.uplink
  split
  · split
    · exact hi
    · exact hi.emit _
  · exact hi.discardUp _
  · exact hi
  · exact hi

theorem TableInv.keepLevel (hi : TableInv s) (hheld : (s.record a.tree a.home).state ≠ .free)
    (hin : a.outcome.inRange) : TableInv (s.keepLevel a) := by
  unfold State.keepLevel
  split
  · next level hlevel => exact hi.modRecord _ _ _ (Home.keeps_lastLevel hheld (hin.1 level hlevel))
  · exact hi

theorem TableInv.keepSilence (hi : TableInv s) (hin : s.running = true → settingsInRange s.cfg) :
    TableInv (s.keepSilence a) := by
  unfold State.keepSilence
  dsimp only
  split
  · next hactive =>
    have hheld : (s.record a.tree a.home).state ≠ .free := by rw [hactive]; decide
    have hrange := hin (Bool.and_eq_true_iff.mp (hi.enabled_of_held hheld)).1
    split
    · exact hi.modRecord _ _ _ (Home.keeps_silence hactive hrange.positive.1)
    · split
      · exact hi.changeState hrange hheld (by rw [hactive]; rfl) ⟨by simp, fun _ => by simp⟩ (by decide)
          (fun p hp => by cases hp)
      · next hbelow => exact hi.modRecord _ _ _ (Home.keeps_silence hactive (Nat.not_le.mp hbelow))
  · exact hi

theorem TableInv.retrim (hi : TableInv s) : TableInv (s.retrim a) := by
  unfold State.retrim
  split
  · split
    · next hdrift =>
      obtain ⟨-, hactive, -⟩ := hdrift
      refine TableInv.queueWord (hi.modHome _ _ _ (Home.keeps_trim hactive ?_))
        (hi.enabled_of_held (by rw [hactive]; decide)) _
      unfold trimmedDelay Config.referenceTrip
      omega
    · exact hi
  all_goals exact hi

theorem TableInv.keepReport (hi : TableInv s) (hin : a.outcome.inRange) : TableInv (s.keepReport a) := by
  unfold State.keepReport
  split
  · next hgood =>
    split
    · next hactive =>
      exact hi.modHome _ _ _ (Home.keeps_reportSlot hactive (hin.2 _ _ _ _ _ _ hgood))
    · exact hi
  all_goals exact hi

theorem scoreUp_le (n : Nat) : scoreUp n ≤ 31 := Nat.min_le_right _ _

theorem TableInv.scoreArrival (hi : TableInv s) : TableInv (s.scoreArrival a) := by
  unfold State.scoreArrival
  split
  · split
    · exact hi.setScore _ _ fun n _ => scoreUp_le n
    · exact hi.setScore _ _ fun n hn => (Nat.sub_le n 1).trans hn
  · split
    · exact hi.setScore _ _ fun n _ => scoreUp_le n
    · exact hi
  · exact hi
  · exact hi

theorem TableInv.meterArrival (hi : TableInv s) : TableInv (s.meterArrival a) := by
  unfold State.meterArrival
  split
  · exact hi.countUp _ _ _
  all_goals exact hi

theorem TableInv.takeArrival (hi : TableInv s) (hin : s.running = true → settingsInRange s.cfg)
    (hrange : a.outcome.inRange) (payload : List Byte) : TableInv (s.takeArrival a payload) := by
  unfold State.takeArrival
  split
  · exact hi.discardUp _
  · next hfresh =>
    have hheld : (s.record a.tree a.home).state ≠ .free := by
      intro hfree
      exact hfresh (by simp [State.staleArrival, hfree])
    have huplink : (s.uplink a payload).record a.tree a.home = s.record a.tree a.home := by
      unfold State.uplink
      split
      · split <;> rfl
      · exact congrArg Home.record (s.discardUp_home _ _ _)
      · rfl
      · rfl
    have hfigures := ((s.calm_uplink a payload).trans (State.calm_keepLevel _ a)).figures
    have hleveled := (hi.uplink payload).keepLevel (a := a) (by rw [huplink]; exact hheld) hrange
    have hrunning : ((s.uplink a payload).keepLevel a).running = s.running := by
      rw [State.running, State.running, hfigures.chipState]
    exact ((((hleveled.keepSilence (a := a) (by rw [hrunning, hfigures.cfg]; exact hin)).retrim).keepReport
      hrange).scoreArrival).meterArrival

end arrival

end line

/-! ### The restart (R12, R43, R170, R179) -/

section restart
variable {s : State} {t : TreeId}

theorem TableInv.restartRecord (hi : TableInv s) (hin : s.running = true → settingsInRange s.cfg) (h : HomeIdx) :
    TableInv (s.restartRecord t h) := by
  unfold State.restartRecord
  split
  · exact hi
  · next hheld =>
    exact hi.leaves (hin (Bool.and_eq_true_iff.mp (hi.enabled_of_held hheld)).1) hheld .restart rfl
      ⟨fun _ => rfl, by simp⟩ (by decide) (fun p hp => by cases hp)

theorem TableInv.emptiedTree (hi : TableInv s) (hin : s.running = true → settingsInRange s.cfg) (t : TreeId) :
    TableInv (s.emptiedTree t) := by
  have hall : ∀ (l : List HomeIdx) (a : State), TableInv a → (a.running = true → settingsInRange a.cfg) →
      TableInv (l.foldl (State.restartRecord t) a) := by
    intro l
    induction l with
    | nil => exact fun a ha _ => ha
    | cons h l ih =>
      intro a ha hrange
      have hfigures := (a.calm_restartRecord t h).figures
      refine ih _ (ha.restartRecord hrange h) ?_
      rw [State.running, hfigures.chipState, hfigures.cfg]
      exact hrange
  unfold State.emptiedTree
  exact hall allHomes s hi hin

theorem TableInv.restartReadout (hi : TableInv s) (t : TreeId) (e : Readout) :
    TableInv (State.restartReadout t s e) := by
  unfold State.restartReadout
  split
  · exact hi
  · split
    · split
      · exact hi.modMeter _
      · exact hi.mergeBack e
      · exact hi
    · exact hi

theorem State.calm_emptiedTree (s : State) (t : TreeId) : s.calm (s.emptiedTree t) := by
  unfold State.emptiedTree
  exact State.calm_foldl (fun a h => a.calm_restartRecord t h) s _

/-- The restart of a tree as its records emptied, its readouts ended, and its figures begun anew. -/
theorem State.restartTree_unfold (s : State) (t : TreeId) : s.restartTree t =
    (((s.emptiedTree t).restartReadouts t).setTestDark t (fun _ => none)).modTree t Tree.restarted := by
  unfold State.restartTree State.emptiedTree
  with_reducible rfl

theorem TableInv.restartTree (hi : TableInv s) (hin : s.running = true → settingsInRange s.cfg)
    (hon : s.enabled t = true) : TableInv (s.restartTree t) := by
  have hended : TableInv ((s.emptiedTree t).restartReadouts t) :=
    TableInv.foldl (fun e ha => ha.restartReadout t e) (hi.emptiedTree hin t) _
  have hsteady : s.steady (((s.emptiedTree t).restartReadouts t)) :=
    (s.calm_emptiedTree t).tosteady.trans (State.steady_foldl (fun a e => a.steady_restartReadout t e) _ _)
  have henabled := (State.enabled_of_figures hsteady.figures t).trans hon
  have hlight : (((s.emptiedTree t).restartReadouts t).tree t).light ≠ .off := fun hoff => by
    have hfalse := (hended.off t).mp hoff
    rw [henabled] at hfalse
    cases hfalse
  rw [State.restartTree_unfold]
  refine (hended.setTestDark t _).of_modTree _ ⟨fun _ => Home.keeps_refl _ _, ?_, fun hoff => ?_⟩
  · rw [State.tree_setTestDark_self]
    exact Light.keeps_on hlight (by simp [Tree.restarted]) (by simp [Tree.restarted])
  · exact absurd (henabled.symm.trans hoff) (by decide)

end restart

end Sys2Proof.Machine
end

section
/-! SUPPORT. The Home Table over every command: the statement O58. -/

namespace Sys2Proof.Machine

/-! ### The shelf line -/

section line
variable {s : State}

theorem TableInv.modBus (hi : TableInv s) (f : Bus → Bus) (hchip : (f s.bus).chipState = s.bus.chipState)
    (hsettings : (f s.bus).settings = s.bus.settings) : TableInv (s.modBus f) :=
  hi.of_keeps hchip hsettings rfl (s.keepsUndos_of_inFlight rfl) fun _ => Tree.keeps_refl _ _ _

theorem TableInv.modCounters (hi : TableInv s) (f : BusCounters → BusCounters) : TableInv (s.modCounters f) :=
  hi.modBus _ rfl rfl

theorem TableInv.setQueue (hi : TableInv s) (q : List TxEntry) : TableInv (s.setQueue q) :=
  hi.modBus _ rfl rfl

theorem TableInv.tell (hi : TableInv s) (fin : EntryEnd) (e : TxEntry) : TableInv (s.tell fin e) := by
  refine hi.of_sameTrees (s.calm_tell fin e).figures ?_ ?_ (s.keepsUndos_tell fin e)
  · rw [State.tell_eq]
  · rw [State.tell_eq]

theorem TableInv.clashAlarm (hi : TableInv s) (source : AlarmCause) : TableInv (s.clashAlarm source) := by
  unfold State.clashAlarm
  split
  · exact hi
  · exact hi.post _ _ _

theorem TableInv.clashEntry (hi : TableInv s) (e : TxEntry) : TableInv (s.clashEntry e) := by
  unfold State.clashEntry
  dsimp only
  split
  · exact ((hi.setQueue _).modCounters _).tell _ _
  · exact hi.setQueue _

/-- No frame spells an UNDO_REQUEST. -/
theorem ShelfFrame.command_ne_undo (f : ShelfFrame) (t : TreeId) (h : HomeIdx) (generation : Nat)
    (o : Option SearchOutcome) (refuseNoted : Bool) :
    f.command ≠ some (.undoRequest t h generation o refuseNoted) := by
  unfold ShelfFrame.command
  dsimp only
  split
  case h_12 => split <;> simp
  all_goals simp

theorem TableInv.handOn (hi : TableInv s) (f : ShelfFrame) : TableInv (s.handOn f) := by
  unfold State.handOn
  split
  · exact hi
  · split
    · exact hi.modCounters _
    · dsimp only
      split
      · next c hc =>
        exact (hi.modCounters _).raise fun t h g o r heq => f.command_ne_undo t h g (some o) r (heq ▸ hc)
      · exact (hi.modCounters _).post _ _ _

theorem TableInv.filterFrame (hi : TableInv s) (f : ShelfFrame) : TableInv (s.filterFrame f) := by
  unfold State.filterFrame
  split
  · split
    · split
      · exact hi.handOn f
      · exact hi
    · split
      · exact hi.modCounters _
      · exact hi.handOn f
  · exact hi

theorem TableInv.takeFrame (hi : TableInv s) (f : ShelfFrame) : TableInv (s.takeFrame f) := by
  unfold State.takeFrame
  split
  · exact (hi.modCounters _).clashAlarm _
  · exact hi.filterFrame f

end line

/-! ### Resets, the round opening and SETTINGS -/

section chip
variable {s : State}

theorem Light.keeps_atOpening (limit : Nat) (l : Light) : l.keeps limit l.atOpening := by
  cases l with
  | foreign n => exact Light.keeps_on (by simp) (by simp [Light.atOpening]) (by simp [Light.atOpening])
  | _ => exact Light.keeps_refl _ _

theorem TableInv.openRound (hi : TableInv s) : TableInv s.openRound := by
  refine hi.of_keeps rfl rfl rfl (s.keepsUndos_of_inFlight rfl) fun v => ?_
  rw [State.openRound_tree]
  refine ⟨fun h => ?_, Light.keeps_atOpening _ _, fun hoff hquiet => ?_⟩
  · rw [Tree.atOpening_home]; exact Home.keeps_atOpening _ _
  · obtain ⟨hwords, hplans, htaken, hwindow, hawaiting, -, -⟩ := hquiet
    exact ⟨hwords, hplans, htaken, hwindow, hawaiting, hoff, hoff⟩

theorem TableInv.beginReset (hi : TableInv s) (cause : ResetCause) : TableInv (s.beginReset cause) := by
  refine hi.of_keeps rfl rfl rfl (s.keepsUndos_of_inFlight rfl) fun v => ?_
  have htree : (s.beginReset cause).tree v
      = { s.tree v with tx := { (s.tree v).tx with taken := [] } } := State.tree_mapTrees _ _ v
  rw [htree]
  refine ⟨fun _ => Home.keeps_refl _ _, Light.keeps_refl _ _, fun _ hquiet => ?_⟩
  obtain ⟨hwords, hplans, -, hrest⟩ := hquiet
  exact ⟨hwords, hplans, rfl, hrest⟩

/-- A FREE home keeps to any settings. -/
theorem Home.sound_of_free {x : Home} (hx : HomeInv x) (hfree : x.record.state = .free) (c : Settings) :
    x.sound c := by
  have htiered := hx.tiered
  have hactive := hx.active
  simp only [List.mem_cons, List.not_mem_nil, or_false, forall_eq_or_imp, forall_eq, hfree, isTiered,
    reduceCtorEq, decide_false, Option.isSome_eq_false_iff, Option.isNone_iff_eq_none] at htiered hactive
  obtain ⟨-, -, -, hrelapses, -⟩ := htiered
  obtain ⟨hsilence, -, hpoll, -⟩ := hactive
  refine ⟨hx, fun n hn => ?_, fun n hn => ?_, fun n hn => ?_⟩
  · rw [hsilence] at hn; cases hn
  · rw [hpoll] at hn; cases hn
  · rw [hrelapses] at hn; cases hn

theorem outcomeWithin_of_zero {o : SearchOutcome} (ho : outcomeWithin 0 o) (limit : Nat) :
    outcomeWithin limit o := by
  cases o <;> exact fun n hn => (ho n hn).trans (Nat.zero_le limit)

/-- A waiting chip, with every tree OFF and FREE, enters RUNNING on its settings. -/
theorem TableInv.enterRunning (hi : TableInv s) (hwaiting : s.bus.chipState = .waitingSettings) (sender : Nat)
    (c : Settings) : TableInv (s.enterRunning sender c) := by
  have hoff : ∀ v, s.enabled v = false := fun v => by
    rw [State.enabled, State.running, hwaiting]; rfl
  have hblank : s.cfg = blankSettings := by
    have hnone : s.bus.settings.isSome = false := Bool.eq_false_iff.mpr fun hsome => by
      rw [hi.settings.mpr hsome] at hwaiting
      cases hwaiting
    rw [State.cfg, Option.isSome_eq_false_iff.mp hnone |> Option.isNone_iff_eq_none.mp]
    rfl
  have htree : ∀ v, (s.enterRunning sender c).tree v
      = if c.enabled.getLsbD v then { s.tree v with light := .clear 0 } else s.tree v := get_tabulate _
  have hhome : ∀ v k, (s.enterRunning sender c).home v k = s.home v k := fun v k => by
    rw [State.home, htree v]; split <;> rfl
  have hfree : ∀ v k, (s.record v k).state = .free := fun v => (hi.disabled v (hoff v)).1
  have hon : ∀ v, (s.enterRunning sender c).enabled v = c.enabled.getLsbD v := fun v => Bool.true_and _
  refine (tableInv_iff _).mpr ⟨⟨fun _ => rfl, fun _ => rfl⟩, fun v => ?_, fun v => ?_, ?_, ?_⟩
  · refine ⟨fun k => ?_, fun w o hw => ?_, ?_, fun hdisabled => ?_⟩
    · rw [show ((s.enterRunning sender c).tree v).home k = s.home v k from hhome v k]
      exact Home.sound_of_free (hi.homes v k) (hfree v k) _
    · rw [htree v] at hw
      split at hw
      · cases hw
      · rw [(hi.off v).mpr (hoff v)] at hw; cases hw
    · rw [hon v, htree v]
      split
      · next henabled => rw [henabled]; simp
      · next hdisabled =>
        exact iff_of_true ((hi.off v).mpr (hoff v)) (Bool.eq_false_iff.mpr hdisabled)
    · rw [hon v] at hdisabled
      rw [htree v, hdisabled]
      exact hi.disabled v (hoff v)
  · rw [State.crSum_eq]
    refine (Finset.sum_eq_zero fun k _ => ?_).le.trans (Nat.zero_le _)
    rw [State.record, hhome, State.crOf, show (s.home v k).record.state = .free from hfree v k]
    rfl
  · exact hi.listed.congr rfl fun v k => by rw [State.record, hhome]; exact ⟨Iff.rfl, rfl⟩
  · intro v k g o r hm
    have hzero := hi.undos v k g o r hm
    rw [hblank] at hzero
    exact outcomeWithin_of_zero hzero _

end chip

/-! ### The commands -/

/-- A reply read in a window is one of the window's tree. -/
theorem readOn_tree (litLevel : Int) (t : TreeId) (w : Window) (light : ReplyLight) {round : Nat} {v : TreeId}
    {serial : Serial} {delay offset : Nat} {level : Int}
    (hread : (readOn litLevel t w light).2 = some (.valid round v serial delay offset level)) : v = t := by
  unfold readOn at hread
  dsimp only at hread
  generalize (if w.replyBlind = true then
    stepsBefore (fun level => !decide (litLevel ≤ level)) light.levels else 0) = skipped at hread
  split at hread
  · cases hread
  · split at hread
    · cases hread
    · split at hread
      · split at hread <;> cases hread
        rfl
      · cases hread

section commands
variable {s u : State}

theorem ChipInv.inRange (hchip : ChipInv s) (hrunning : s.running = true) : settingsInRange s.cfg := by
  obtain ⟨⟨c, hc, hin⟩, -⟩ := hchip.running (of_decide_eq_true hrunning)
  rw [State.cfg, hc]
  exact hin

theorem State.running_of_enabled {t : TreeId} (hon : s.enabled t = true) : s.running = true :=
  (Bool.and_eq_true_iff.mp hon).1

theorem State.names_held {t : TreeId} {h : HomeIdx} {generation : Nat} (hnames : s.names t h generation = true) :
    (s.record t h).state ≠ .free := by
  simp only [State.names, Bool.and_eq_true, decide_eq_true_eq] at hnames
  exact hnames.1

theorem State.expired_state {t : TreeId} {h : HomeIdx} {state : RecordState}
    (hexpired : s.expired t h state = true) : (s.record t h).state = state := by
  simp only [State.expired, Bool.and_eq_true, decide_eq_true_eq] at hexpired
  exact hexpired.1

theorem TableInv.ite {a b : State} {c : Prop} [Decidable c] (ha : TableInv a) (hb : TableInv b) :
    TableInv (if c then a else b) := by
  split <;> assumption

/-- The chip's bounds do not look at the commands that wait. -/
theorem ChipInv.withPending (hchip : ChipInv s) (rest : List Instr) : ChipInv { s with pending := rest } :=
  ⟨hchip.round, hchip.queuePlaces, hchip.clashes, hchip.oneOnLine, hchip.address, hchip.managers, hchip.epoch,
    hchip.peers, hchip.share, hchip.own, hchip.waiting, hchip.running⟩

theorem TableInv.whileUp {a : State} (hi : TableInv s) (ha : TableInv a) (hu : s.whileUp a = .next u) :
    TableInv u := by
  rcases State.whileUp_cases hu with rfl | rfl
  · exact hi
  · exact ha

theorem exec_table {c : Instr} (hchip : ChipInv s) (hi : TableInv s)
    (hundo : ∀ t h generation o refuseNoted, c = .undoRequest t h generation (some o) refuseNoted →
      outcomeWithin s.cfg.relapseLimit o)
    (hu : exec c s = .next u) : TableInv u := by
  have hin : s.running = true → settingsInRange s.cfg := hchip.inRange
  have hheldIn : ∀ {t h}, (s.record t h).state ≠ .free → settingsInRange s.cfg :=
    fun hheld => hin (State.running_of_enabled (hi.enabled_of_held hheld))
  cases c with
  | powerOnReset => cases hu; exact hi.beginReset _
  | pinReset =>
    cases hu
    split
    · exact hi
    · exact hi.beginReset _
  | resetEnd straps =>
    cases hs : s.inReset with
    | none =>
      simp only [exec, execResetEnd, hs] at hu
      cases hu
      exact hi
    | some cause =>
      rw [exec_resetEnd straps hs] at hu
      cases hu
      exact tableInv_resetTo _ _ _ _
  | roundOpening => exact hi.whileUp hi.openRound hu
  | settings sender raw =>
    refine hi.whileUp ?_ hu
    dsimp only
    split
    · split
      · next hwaiting =>
        exact (((hi.take _).enterRunning hwaiting _ _).post _ _ _).post _ _ _
      · exact (hi.take _).post _ _ _
    · exact hi.take _
  | demandReceived peer committed excess homes =>
    refine hi.whileUp ?_ hu
    dsimp only
    have htaken := hi.take (.demandReceived peer committed excess homes)
    split
    · exact htaken.of_keeps rfl rfl rfl (State.keepsUndos_of_inFlight rfl) fun _ => Tree.keeps_refl _ _ _
    · exact htaken
  | epochEnd =>
    refine hi.whileUp ?_ hu
    split
    · refine TableInv.post ?_ _ _ _
      exact hi.of_keeps rfl rfl rfl (s.keepsUndos_of_inFlight rfl) fun _ => Tree.keeps_refl _ _ _
    · exact hi
  | helloCountdownExpiry =>
    refine hi.whileUp ?_ hu
    split
    · exact (hi.post _ _ _).modBus _ rfl rfl
    · exact hi
  | planBuild =>
    refine hi.whileUp ?_ hu
    split
    · next hdue => exact hi.buildPlans (hin (Bool.and_eq_true_iff.mp hdue).2)
    · exact hi
  | roundHeader t =>
    refine hi.whileUp ?_ hu
    split
    · next hdue =>
      have hon := (Bool.and_eq_true_iff.mp hdue).2
      have hsent := (State.enabled_of_figures (s.calm_sendHeader t).figures t).trans hon
      have hfirst := (State.enabled_of_figures ((s.calm_sendHeader t).trans
        (State.calm_refresh _ t (refreshIndex s.round 0))).figures t).trans hon
      exact ((hi.sendHeader hon).refresh hsent _).refresh hfirst _
    · exact hi
  | roundReceiveEnd t levels =>
    refine hi.whileUp ?_ hu
    split
    · next hdue =>
      have hon := (Bool.and_eq_true_iff.mp hdue).2
      have hclosed := (State.enabled_of_figures (s.steady_closeWindow t levels).figures t).trans hon
      have hopened := (State.enabled_of_figures ((s.steady_closeWindow t levels).trans
        (State.calm_openWindow _ t).tosteady).figures t).trans hon
      exact ((hi.closeWindow t levels).openWindow hclosed).of_enabled hopened _ rfl rfl
    · exact hi
  | arrival t light =>
    refine hi.whileUp ?_ hu
    split
    · exact hi
    · next w hw =>
      split
      · exact hi
      · next g hg =>
        have hset : TableInv (s.setWindow t (w.settle s.cfg.litLevel t g light).1) :=
          hi.of_enabled (hi.enabled_of_window hw) _ rfl rfl
        exact hset.takeArrival hin (settleGrant_inRange _ _ _ _ _) _
  | discoveryReply t light =>
    refine hi.whileUp ?_ hu
    split
    · exact hi
    · next w hw =>
      have hon := hi.enabled_of_window hw
      split
      · have hread : TableInv (s.setWindow t (readOn s.cfg.litLevel t w light).1) :=
          hi.of_enabled hon _ rfl rfl
        dsimp only
        split
        · next reply hreply =>
          refine hread.takeReply (hin (State.running_of_enabled hon)) fun round v serial delay offset level heq => ?_
          rw [heq] at hreply
          rw [readOn_tree _ _ _ _ hreply]
          exact hon
        · exact hread
      · exact hi
  | downstreamFrame t h frame =>
    refine hi.whileUp ?_ hu
    split
    · exact hi
    · split
      · next hdelivers =>
        have hon : s.enabled t = true := by
          simp only [State.delivers, Bool.and_eq_true] at hdelivers
          exact hdelivers.1.1
        exact TableInv.countDown (hi.of_enabled hon _ rfl rfl) t h _
      · exact hi.of_traffic _ rfl rfl fun _ => id
  | takenFrameSent t =>
    refine hi.whileUp ?_ hu
    split
    · exact hi
    · next f rest htaken =>
      split
      · refine TableInv.emit (hi.of_traffic _ rfl rfl fun hoff hquiet => ?_) _
        obtain ⟨-, -, hnone, -⟩ := hquiet
        rw [htaken] at hnone
        cases hnone
      · exact hi
  | lineIdle =>
    refine hi.whileUp ?_ hu
    dsimp only
    split
    · exact (hi.modBus _ rfl rfl).setQueue _
    · exact hi.modBus _ rfl rfl
  | contentionLost =>
    refine hi.whileUp ?_ hu
    split
    · exact hi
    · exact (hi.setQueue _).modCounters _
  | addressClashSending =>
    refine hi.whileUp ?_ hu
    split
    · exact hi
    · exact (((hi.clashEntry _).modCounters _).modBus _ rfl rfl).clashAlarm _
  | frameSent =>
    refine hi.whileUp ?_ hu
    split
    · exact hi
    · exact (((hi.setQueue _).modCounters _).emit _).tell _ _
  | frameReceived bits =>
    refine hi.whileUp ?_ hu
    split
    · dsimp only
      split
      · exact (hi.modBus _ rfl rfl).modCounters _
      · split
        · exact hi.modBus _ rfl rfl
        · exact (hi.modBus _ rfl rfl).takeFrame _
    · exact hi
  | queryChip sender q =>
    refine hi.whileUp ?_ hu
    dsimp only
    split
    · exact (hi.take _).post _ _ _
    · exact hi.take _
  | queryTree sender q =>
    refine hi.whileUp ?_ hu
    dsimp only
    split
    · split <;> exact (hi.take _).post _ _ _
    · exact hi.take _
  | queryHome sender q =>
    refine hi.whileUp ?_ hu
    dsimp only
    split
    · split <;> exact (hi.take _).post _ _ _
    · exact hi.take _
  | admission sender serial tier quota =>
    refine hi.whileUp ?_ hu
    dsimp only
    have htaken := hi.take (.admission sender serial tier quota)
    split
    · split
      · split
        · exact htaken.post _ _ _
        · next t h hfound => exact htaken.admitAt (hheldIn (hi.lookup_held hfound).1) _ _ _ _ _ _
      · exact htaken.post _ _ _
    · exact htaken
  | refuse sender serial =>
    refine hi.whileUp ?_ hu
    dsimp only
    have htaken := hi.take (.refuse sender serial)
    split
    · split
      · exact htaken.post _ _ _
      · next t h hfound =>
        have hheld := (hi.lookup_held hfound).1
        exact (htaken.refuseHome (hheldIn hheld) hheld).post _ _ _
    · exact htaken
  | release sender serial =>
    refine hi.whileUp ?_ hu
    dsimp only
    have htaken := hi.take (.release sender serial)
    split
    · split
      · exact htaken.post _ _ _
      · next t h hfound => exact htaken.releaseHome (hheldIn (hi.lookup_held hfound).1) _ _ _ _
    · exact htaken
  | dismiss sender serial =>
    refine hi.whileUp ?_ hu
    dsimp only
    have htaken := hi.take (.dismiss sender serial)
    split
    · split
      · exact htaken.post _ _ _
      · next t h hfound =>
        have hheld := (hi.lookup_held hfound).1
        exact (htaken.departWithDismiss (hheldIn hheld) hheld _ (by decide) (fun p hp => by cases hp)).post _ _ _
    · exact htaken
  | claimReceived peer serial tree index =>
    refine hi.whileUp ?_ hu
    dsimp only
    have htaken := hi.take (.claimReceived peer serial tree index)
    split
    · split
      · next t h hfound => exact htaken.answerClaim (hheldIn (hi.lookup_held hfound).1) _ _ _ _ _ _
      · exact htaken
    · exact htaken
  | objectReceived peer serial tree index =>
    refine hi.whileUp ?_ hu
    dsimp only
    have htaken := hi.take (.objectReceived peer serial tree index)
    split
    · split
      · next t h hfound => exact htaken.answerObject (hheldIn (hi.lookup_held hfound).1) _ _ _
      · exact htaken
    · exact htaken
  | claimSentReport t h generation =>
    refine hi.whileUp ?_ hu
    dsimp only
    have htaken := hi.take (.claimSentReport t h generation)
    split
    · next hnamed =>
      have hclaiming := of_decide_eq_true (Bool.and_eq_true_iff.mp hnamed).2
      refine htaken.modRecord t h _ (Home.keeps_timer ?_)
      rw [show ((s.take (.claimSentReport t h generation)).home t h).record.state = .claiming from hclaiming]
      exact ⟨by simp, by simp⟩
    · exact htaken
  | claimDroppedReport t h generation =>
    refine hi.whileUp ?_ hu
    dsimp only
    have htaken := hi.take (.claimDroppedReport t h generation)
    split
    · next hnamed =>
      have hclaiming : (s.record t h).state = .claiming := of_decide_eq_true (Bool.and_eq_true_iff.mp hnamed).2
      have hheld : (s.record t h).state ≠ .free := by rw [hclaiming]; decide
      exact htaken.freeWithDismiss (hheldIn hheld) hheld
        (show isTiered (s.record t h).state = false by rw [hclaiming]; rfl) (by decide) (fun p hp => by cases hp)
    · exact htaken
  | scoreQuenchRequest t h generation =>
    refine hi.whileUp ?_ hu
    dsimp only
    have htaken := hi.take (.scoreQuenchRequest t h generation)
    split
    · next hnamed =>
      have hactive : (s.record t h).state = .active := of_decide_eq_true (Bool.and_eq_true_iff.mp hnamed).2
      have hheld : (s.record t h).state ≠ .free := by rw [hactive]; decide
      exact htaken.changeState_queueWord (hheldIn hheld) hheld
        (show isTiered .quenched = isTiered (s.record t h).state by rw [hactive]; rfl) ⟨by simp, by simp⟩
        (by decide) (fun p hp => by cases hp) _
    · exact htaken
  | searchQuenchRequest t h generation =>
    refine hi.whileUp ?_ hu
    dsimp only
    split
    · next hnamed => exact (hi.take _).searchQuench (hheldIn (State.names_held hnamed)) t h _
    · exact hi.take _
  | undoRequest t h generation outcome refuseNoted =>
    refine hi.whileUp ?_ hu
    dsimp only
    split
    · next hnamed =>
      split
      · exact (hi.take _).undo (hheldIn (State.names_held (Bool.and_eq_true_iff.mp hnamed).1)) t h
          (hundo _ _ _ _ _ rfl)
      · exact hi.take _
    · exact hi.take _
  | claimWaitExpiry t h =>
    refine hi.whileUp ?_ hu
    split
    · next hexpired =>
      have hstate := State.expired_state hexpired
      have hheld : (s.record t h).state ≠ .free := by rw [hstate]; decide
      exact (hi.changeState (hheldIn hheld) hheld (by rw [hstate]; rfl) ⟨by simp, fun _ => by simp⟩ (by decide)
        (fun p hp => by cases hp)).post _ _ _
    · exact hi
  | admitWaitExpiry t h | barHoldExpiry t h =>
    refine hi.whileUp ?_ hu
    split
    · next hexpired =>
      have hstate := State.expired_state hexpired
      have hheld : (s.record t h).state ≠ .free := by rw [hstate]; decide
      exact hi.freeWithDismiss (hheldIn hheld) hheld (by rw [hstate]; rfl) (by decide) (fun p hp => by cases hp)
    · exact hi
  | lostHoldExpiry t h =>
    refine hi.whileUp ?_ hu
    split
    · next hexpired =>
      have hheld : (s.record t h).state ≠ .free := by rw [State.expired_state hexpired]; decide
      exact hi.departWithDismiss (hheldIn hheld) hheld _ (by decide) (fun p hp => by cases hp)
    · exact hi
  | quenchHoldExpiry t h =>
    refine hi.whileUp ?_ hu
    split
    · next hexpired =>
      have hstate := State.expired_state hexpired
      have hheld : (s.record t h).state ≠ .free := by rw [hstate]; decide
      exact hi.changeState_queueWord (hheldIn hheld) hheld (by rw [hstate]; rfl) ⟨fun _ => rfl, by simp⟩ (by decide)
        (fun p hp => by cases hp) _
    · exact hi
  | trimHoldEnd t h =>
    refine hi.whileUp ?_ hu
    split
    · exact hi.modHome t h _ (Home.keeps_trimHold fun n hn => by cases hn)
    · exact hi
  | foreignTimerExpiry t =>
    refine hi.whileUp ?_ hu
    split
    · next hlight =>
      have hon : (s.tree t).light ≠ .off := by rw [hlight]; simp
      exact TableInv.ite (hi.enterSearch hon _) (hi.setLight t _ (Light.keeps_on hon (by simp) (by simp)))
    · exact hi
  | restart sender tree =>
    refine hi.whileUp ?_ hu
    dsimp only
    have htaken := hi.take (.restart sender tree)
    split
    · split
      · split
        · next hon => exact (htaken.restartTree hin hon).post _ _ _
        · exact htaken.post _ _ _
      · exact htaken.post _ _ _
    · exact htaken
  | read sender kind tree first count =>
    refine hi.whileUp ?_ hu
    dsimp only
    have htaken := hi.take (.read sender kind tree first count)
    split
    · split
      · exact htaken.answerRead _ _
      · exact htaken.post _ _ _
    · exact htaken
  | confirm sender tag =>
    refine hi.whileUp ?_ hu
    dsimp only
    have htaken := hi.take (.confirm sender tag)
    split
    · split
      · exact (htaken.commit _).post _ _ _
      · exact htaken.post _ _ _
    · exact htaken
  | pickupWaitExpiry tag =>
    refine hi.whileUp ?_ hu
    split
    · exact (hi.modMeter _).mergeBack _
    · exact hi
  | confirmWaitExpiry tag =>
    refine hi.whileUp ?_ hu
    split
    · exact hi.mergeBack _
    · exact hi

end commands

/-- Settles O58: each command keeps the table; an UNDO_REQUEST in front carries an outcome that the Monitor
recorded. -/
theorem everyStepKeepsTheHomeTable : Obligations.EveryStepKeepsTheHomeTable := by
  intro s u hchip hi hfront hu
  rcases step_cases hu with rfl | ⟨c, rest, hpending, hexec⟩
  · exact hi
  · refine exec_table (hchip.withPending rest) (hi.withPending rest) (fun t h generation o refuseNoted heq => ?_) hexec
    subst heq
    exact hi.undos t h generation o refuseNoted (hfront t h generation (some o) refuseNoted rest hpending)

end Sys2Proof.Machine
end

section
/-! SUPPORT. A readout that ends, is cut, is delivered or begins, and a tree restart: the readout table stays
in order (sections 9.1 to 9.5); the statement O57. -/

namespace Sys2Proof.Machine

/-! ### Homes released by a commit or a merge-back (R168, R169) -/

section release
variable {s a : State} {t : TreeId} {h : HomeIdx}

/-- A calm step lets a home be held only where it was, with its generation. -/
theorem State.calm.holdsFor (hcalm : s.calm a) {tag : Nat} (hholds : a.holdsFor t h tag) :
    s.holdsFor t h tag ∧ (a.record t h).generation = (s.record t h).generation :=
  (hcalm.held t).holdsFor hholds

/-- Of a held home the record is tiered. -/
theorem TableInv.tiered_of_usage (hi : TableInv s) {x : UsageEntry} (hx : (s.home t h).usage = some x) :
    isTiered (s.record t h).state = true := by
  have hshape := (hi.homes t h).tiered ((s.home t h).usage.isSome) (by simp)
  rw [hx] at hshape
  exact hshape.symm

theorem State.commitRecord_releases (hi : TableInv s) (serial : Serial) (interval : Nat) (k : Counters)
    (tag : Nat) : ¬ (s.commitRecord
      (.taken serial t h (s.record t h).generation interval k)).holdsFor t h tag := by
  intro hholds
  obtain ⟨⟨x, hx, -⟩, -⟩ := (s.calm_commitRecord _).holdsFor hholds
  obtain ⟨y, hy, htag⟩ := hholds
  rw [State.commitRecord_held rfl (hi.tiered_of_usage hx) hx, State.reviewQuota_home, State.withUsage_home] at hy
  cases hy
  cases htag

theorem State.mergeRecord_releases (hi : TableInv s) (serial : Serial) (interval : Nat) (k : Counters)
    (tag : Nat) : ¬ (s.mergeRecord
      (.taken serial t h (s.record t h).generation interval k)).holdsFor t h tag := by
  intro hholds
  obtain ⟨⟨x, hx, -⟩, -⟩ := (s.calm_mergeRecord _).holdsFor hholds
  obtain ⟨y, hy, htag⟩ := hholds
  rw [State.mergeRecord_held rfl (hi.tiered_of_usage hx) hx, ← State.evaluateQuota_withUsage,
    State.evaluateQuota_home, State.withUsage_home] at hy
  cases hy
  cases htag

/-- Once a snapshot's records are gone through, it holds no home. -/
theorem State.foldl_releases {f : State → SnapshotRecord → State} (hcalm : ∀ (b : State) r, b.calm (f b r))
    (htable : ∀ {b : State} r, TableInv b → TableInv (f b r))
    (hreleases : ∀ {b : State} serial interval k tag, TableInv b →
      ¬ (f b (.taken serial t h (b.record t h).generation interval k)).holdsFor t h tag)
    (l : List SnapshotRecord) (hi : TableInv s) {serial : Serial} {interval : Nat} {k : Counters}
    (hin : SnapshotRecord.taken serial t h (s.record t h).generation interval k ∈ l) (tag : Nat) :
    ¬ (l.foldl f s).holdsFor t h tag := by
  induction l generalizing s with
  | nil => cases hin
  | cons r l ih =>
    intro hholds
    have hfirst := (State.calm_foldl hcalm (f s r) l).holdsFor hholds
    rcases List.mem_cons.mp hin with rfl | hrest
    · exact hreleases _ _ _ _ hi hfirst.1
    · refine ih (htable r hi) ?_ hholds
      rw [((hcalm s r).holdsFor hfirst.1).2]
      exact hrest

end release

/-! ### The end of an entry (R167 to R170) -/

section ending
variable {s : State} {e : Readout}

/-- The entry of a tag that a home is held under. -/
theorem MeterInv.entry_of_held (hm : MeterInv s) (he : e ∈ s.meter.readouts) {t : TreeId} {h : HomeIdx}
    (hholds : s.holdsFor t h e.tag) : e.holds t h (s.record t h).generation := by
  obtain ⟨hm, hheld⟩ := (meterInv_iff s).mp hm
  obtain ⟨x, hx, htag, hcut⟩ := hheld t h e.tag hholds
  rw [hm.tag_inj he hx htag] at hcut
  exact hcut

/-- No departed record carries the tag of a USAGE entry. -/
theorem MeterInv.unmarked_of_usage (hm : MeterInv s) (he : e ∈ s.meter.readouts) {t : TreeId} {first : HomeIdx}
    (hrange : e.range = .usage t first) : ∀ d ∈ s.meter.departed, d.mark ≠ some e.tag := by
  obtain ⟨hm, -⟩ := (meterInv_iff s).mp hm
  intro d hd hmark
  obtain ⟨x, hx, htag, hdeparted⟩ := hm.marks d hd e.tag hmark
  rw [hm.tag_inj he hx htag, hrange] at hdeparted
  cases hdeparted

/-- A USAGE entry whose records are gone through is freed. -/
theorem MeterInv.free_released (hm : MeterInv s) (he : e ∈ s.meter.readouts) {t : TreeId} {first : HomeIdx}
    (hrange : e.range = .usage t first) {f : State → SnapshotRecord → State}
    (hcalm : ∀ (b : State) r, b.calm (f b r))
    (hreleased : ∀ v k, s.holdsFor v k e.tag → ¬ (e.snapshot.foldl f s).holdsFor v k e.tag) :
    MeterInv ((e.snapshot.foldl f s).modMeter (·.free e.tag)) := by
  have hfold := State.calm_foldl hcalm s e.snapshot
  have hm' := hm.calm hfold
  refine hm'.free e.tag (fun v k hholds => hreleased v k (hfold.holdsFor hholds).1 hholds) ?_
  exact hm'.unmarked_of_usage (hfold.readouts ▸ he) hrange

/-- A DEPARTED entry is freed once no departed record carries its mark. -/
theorem MeterInv.free_departed (hm : MeterInv s) (he : e ∈ s.meter.readouts) (hrange : e.range = .departed)
    (f : Meter → Meter) (hreadouts : (f s.meter).readouts = s.meter.readouts)
    (hnext : (f s.meter).nextTag = s.meter.nextTag)
    (hlength : (f s.meter).departed.length ≤ s.meter.departed.length)
    (hmarked : ∀ tag, (markedWith tag (f s.meter).departed).length ≤ (markedWith tag s.meter.departed).length)
    (hgone : ∀ d ∈ (f s.meter).departed, d.mark ≠ some e.tag) :
    MeterInv ((s.modMeter f).modMeter (·.free e.tag)) := by
  refine MeterInv.free (s := s.modMeter f) (hm.of_readouts hreadouts hnext (hlength.trans hm.places.2) hmarked
    fun t => Tree.holdsNoMore_refl _) e.tag (fun t h hholds => ?_) hgone
  obtain ⟨-, serial, interval, counters, hin⟩ := hm.entry_of_held he (t := t) (h := h) hholds
  obtain ⟨-, -, -, -, hempty, -⟩ := hm.departed e he hrange
  rw [hempty] at hin
  cases hin

/-- A USAGE entry is committed or merged back, and freed. -/
theorem MeterInv.end_usage (hm : MeterInv s) (hi : TableInv s) (he : e ∈ s.meter.readouts) {t : TreeId}
    {first : HomeIdx} (hrange : e.range = .usage t first) {f : State → SnapshotRecord → State}
    (hcalm : ∀ (b : State) r, b.calm (f b r)) (htable : ∀ {b : State} r, TableInv b → TableInv (f b r))
    (hreleases : ∀ {b : State} {v k} serial interval c tag, TableInv b →
      ¬ (f b (.taken serial v k (b.record v k).generation interval c)).holdsFor v k tag) :
    MeterInv ((e.snapshot.foldl f s).modMeter (·.free e.tag)) := by
  refine hm.free_released he hrange hcalm fun v k hholds => ?_
  obtain ⟨-, serial, interval, counters, hin⟩ := hm.entry_of_held he hholds
  exact State.foldl_releases hcalm htable hreleases e.snapshot hi hin e.tag

theorem MeterInv.commit (hm : MeterInv s) (hi : TableInv s) (he : e ∈ s.meter.readouts) :
    MeterInv (s.commit e) := by
  rw [State.commit_eq]
  cases hrange : e.range with
  | usage t first =>
    exact hm.end_usage hi he hrange State.calm_commitRecord (fun r hb => hb.commitRecord r)
      (fun _ _ _ _ hb => State.commitRecord_releases hb _ _ _ _)
  | departed =>
    refine hm.free_departed he hrange (·.removeMarked e.tag) rfl rfl (List.length_filter_le _ _)
      (fun tag => ((List.filter_sublist).filter _).length_le) fun d hd => ?_
    simpa using (List.mem_filter.mp hd).2

/-- Taking a mark off leaves no other mark new. -/
theorem markedWith_unmark (tag other : Nat) (l : List DepartedRecord) :
    (markedWith other (l.map (fun d => if d.mark = some tag then { d with mark := none } else d))).length
      ≤ (markedWith other l).length := by
  rw [markedWith, List.filter_map, List.length_map]
  refine (List.monotone_filter_right _ fun d hd => ?_).length_le
  simp only [Function.comp_apply] at hd
  split at hd
  · simp at hd
  · exact hd

theorem MeterInv.mergeBack (hm : MeterInv s) (hi : TableInv s) (he : e ∈ s.meter.readouts) :
    MeterInv (s.mergeBack e) := by
  rw [State.mergeBack_eq]
  cases hrange : e.range with
  | usage t first =>
    exact hm.end_usage hi he hrange State.calm_mergeRecord (fun r hb => hb.mergeRecord r)
      (fun _ _ _ _ hb => State.mergeRecord_releases hb _ _ _ _)
  | departed =>
    refine hm.free_departed he hrange (·.unmark e.tag) rfl rfl (List.length_map _).le
      (fun tag => markedWith_unmark e.tag tag _) fun d hd => ?_
    obtain ⟨x, -, rfl⟩ := List.mem_map.mp hd
    split
    · simp
    · next hother => exact hother

end ending

/-! ### The cut (R164, R165) -/

section cut
variable {s : State} {e : Readout} {t : TreeId} {first : HomeIdx}

theorem State.snapshotOf_place (s : State) (t : TreeId) (h : HomeIdx) :
    snapshotTree (s.snapshotOf t h) = t ∧ snapshotHome (s.snapshotOf t h) = h := by
  unfold State.snapshotOf
  dsimp only
  split
  · exact ⟨rfl, rfl⟩
  · split <;> exact ⟨rfl, rfl⟩

theorem State.snapshotOf_taken {h : HomeIdx} {x : UsageEntry} (hx : (s.home t h).usage = some x)
    (hopen : x.inSnapshot = none) : s.snapshotOf t h = .taken ((s.record t h).serial.getD 0) t h
      (s.record t h).generation x.interval x.counters := by
  simp only [State.snapshotOf, hx, hopen]
  rfl

/-- The snapshot of a cut has one record for each index covered. -/
theorem State.snapshot_places (s : State) (t : TreeId) (first : HomeIdx) {count : Nat}
    (hfits : first.val + count ≤ 128) :
    ((coveredHomes first count).map (s.snapshotOf t)).map (fun r => (snapshotTree r, (snapshotHome r).val))
      = (List.range' first.val count).map (fun n => (t, n)) := by
  rw [← coveredHomes_val first hfits, List.map_map, List.map_map]
  refine List.map_congr_left fun h _ => ?_
  simp only [Function.comp_apply, s.snapshotOf_place t h]

/-- A home held after a cut was held before it, or is one that the cut took. -/
theorem State.holdsFor_cut (hrange : e.range = .usage t first) {v : TreeId} {k : HomeIdx} {tag : Nat}
    (hholds : (s.cut e).holdsFor v k tag) : ((s.cut e).record v k).generation = (s.record v k).generation
      ∧ (s.holdsFor v k tag ∨ (v = t ∧ k ∈ coveredHomes first e.count ∧ tag = e.tag
        ∧ ∃ x, (s.home t k).usage = some x ∧ x.inSnapshot = none)) := by
  obtain ⟨x, hx, htag⟩ := hholds
  by_cases hv : v = t
  · subst hv
    have hhome := s.cut_home hrange k
    rw [State.record, State.record]
    rw [hhome] at hx ⊢
    split at hx
    · next hcovered =>
      rw [if_pos hcovered]
      obtain ⟨y, hy, rfl⟩ := Option.map_eq_some_iff.mp hx
      refine ⟨rfl, ?_⟩
      rw [UsageEntry.cut_eq] at htag
      by_cases hopen : y.inSnapshot = none
      · rw [if_pos hopen] at htag
        exact .inr ⟨rfl, (mem_coveredHomes first e.count k).mpr hcovered, (Option.some.inj htag).symm, y, hy, hopen⟩
      · rw [if_neg hopen] at htag
        exact .inl ⟨y, hy, htag⟩
    · next houtside =>
      rw [if_neg houtside]
      exact ⟨rfl, .inl ⟨x, hx, htag⟩⟩
  · have hsame : (s.cut e).home v k = s.home v k := by
      rw [State.home, State.home, s.cut_tree_other hrange v hv]
    rw [hsame] at hx
    exact ⟨by rw [State.record, State.record, hsame], .inl ⟨x, hx, htag⟩⟩

theorem MeterInv.cut (hm : MeterInv s) (he : e ∈ s.meter.readouts) (hrange : e.range = .usage t first)
    (hpreparing : e.state = .preparing) : MeterInv (s.cut e) := by
  obtain ⟨hm, hheld⟩ := (meterInv_iff s).mp hm
  have hreadouts : (s.cut e).meter.readouts = s.meter.readouts.map (e.cutTo s.cfg.pickupWait
      ((coveredHomes first e.count).map (s.snapshotOf t))) := by rw [s.cut_usage hrange]; rfl
  have hnext : (s.cut e).meter.nextTag = s.meter.nextTag := by rw [s.cut_usage hrange]; rfl
  have hdeparted : (s.cut e).meter.departed = s.meter.departed := by rw [s.cut_usage hrange]; rfl
  generalize hcutTo : e.cutTo s.cfg.pickupWait ((coveredHomes first e.count).map (s.snapshotOf t)) = f at hreadouts
  have hkept : ∀ x, (f x).tag = x.tag ∧ (f x).range = x.range ∧ (f x).count = x.count := fun x => by
    rw [← hcutTo, Readout.cutTo]; split <;> exact ⟨rfl, rfl, rfl⟩
  have hother : ∀ x ∈ s.meter.readouts, x ≠ e → f x = x := fun x hx hne => by
    rw [← hcutTo, Readout.cutTo, if_neg fun htag => hne (hm.tag_inj he hx htag)]
  have hself : f e = { e with state := .ready, timer := some (max s.cfg.pickupWait 1)
                              snapshot := (coveredHomes first e.count).map (s.snapshotOf t) } := by
    rw [← hcutTo, Readout.cutTo, if_pos rfl]
  have hfrom : ∀ x ∈ (s.cut e).meter.readouts, ∃ y ∈ s.meter.readouts, f y = x := by
    rw [hreadouts]; exact fun x hx => List.mem_map.mp hx
  have hto : ∀ y ∈ s.meter.readouts, f y ∈ (s.cut e).meter.readouts := by
    rw [hreadouts]; exact fun y hy => List.mem_map_of_mem hy
  have htags : (s.cut e).meter.readouts.map Readout.tag = s.meter.readouts.map Readout.tag := by
    rw [hreadouts, List.map_map]
    exact List.map_congr_left fun x _ => (hkept x).1
  refine (meterInv_iff _).mpr ⟨⟨⟨?_, ?_⟩, ⟨?_, ?_⟩, ⟨?_, ?_, ?_⟩, ?_, ?_, ?_⟩, ?_⟩
  · rw [hreadouts, List.length_map]; exact hm.places.1
  · rw [hdeparted]; exact hm.places.2
  · rw [htags]; exact hm.tags.1
  · intro x hx
    obtain ⟨y, hy, rfl⟩ := hfrom x hx
    rw [(hkept y).1]; exact hm.tags.2 y hy
  · rw [hnext]; exact hm.nextTag.1
  · rw [hnext]; exact hm.nextTag.2.1
  · intro x hx
    obtain ⟨y, hy, rfl⟩ := hfrom x hx
    rw [(hkept y).1, hnext]; exact hm.nextTag.2.2 y hy
  · intro x hx
    obtain ⟨y, hy, rfl⟩ := hfrom x hx
    by_cases hye : y = e
    · subst hye
      obtain ⟨hlow, hhigh, hfits, -, -⟩ := (hm.entries y hy).usage t first hrange
      rw [hself]
      refine ⟨fun v k hvk => ?_, fun hdep => ?_⟩
      · cases hrange.symm.trans hvk
        exact ⟨hlow, hhigh, hfits, fun h => (by cases h), fun _ => ⟨by simp, s.snapshot_places t first hfits⟩⟩
      · cases hrange.symm.trans hdep
    · rw [hother y hy hye]; exact hm.entries y hy
  · intro x hx
    obtain ⟨y, hy, rfl⟩ := hfrom x hx
    obtain ⟨htag, hsame, hcount⟩ := hkept y
    rw [htag, hsame, hcount, hdeparted]; exact hm.counts y hy
  · intro d hd tag hmark
    rw [hdeparted] at hd
    obtain ⟨y, hy, htag, hdep⟩ := hm.marks d hd tag hmark
    exact ⟨f y, hto y hy, (hkept y).1.trans htag, (hkept y).2.1.trans hdep⟩
  · intro v k tag hholds
    obtain ⟨hgen, hbefore | ⟨rfl, hcovered, rfl, x, hx, hopen⟩⟩ := State.holdsFor_cut hrange hholds
    · obtain ⟨y, hy, htag, hcut⟩ := hheld v k tag hbefore
      have hye : y ≠ e := fun h => hcut.1 (h ▸ hpreparing)
      exact ⟨y, hother y hy hye ▸ hto y hy, htag, hgen ▸ hcut⟩
    · refine ⟨f e, hto e he, (hkept e).1, ?_⟩
      rw [hself, hgen]
      exact ⟨by simp, _, _, _, List.mem_map.mpr ⟨k, hcovered, State.snapshotOf_taken hx hopen⟩⟩

/-- A cut leaves every other entry in the table. -/
theorem State.mem_cut_readouts (hrange : e.range = .usage t first) {x : Readout} (hx : x ∈ s.meter.readouts)
    (hne : x.tag ≠ e.tag) : x ∈ (s.cut e).meter.readouts := by
  rw [s.cut_usage hrange]
  exact List.mem_map.mpr ⟨x, hx, if_neg hne⟩

/-- PREPARING entries are cut one after another. -/
theorem MeterInv.cuts (l : List Readout) (hm : MeterInv s) (hnodup : (l.map Readout.tag).Nodup)
    (hl : ∀ e ∈ l, e ∈ s.meter.readouts ∧ e.state = .preparing ∧ ∃ t first, e.range = .usage t first) :
    MeterInv (l.foldl State.cut s) := by
  induction l generalizing s with
  | nil => exact hm
  | cons e l ih =>
    obtain ⟨he, hpreparing, t, first, hrange⟩ := hl e List.mem_cons_self
    rw [List.map_cons, List.nodup_cons] at hnodup
    refine ih (hm.cut he hrange hpreparing) hnodup.2 fun x hx => ?_
    obtain ⟨hin, hstate, husage⟩ := hl x (List.mem_cons_of_mem e hx)
    exact ⟨State.mem_cut_readouts hrange hin fun htag => hnodup.1 (htag ▸ List.mem_map_of_mem hx), hstate, husage⟩

theorem MeterInv.meterReceiveEnd (hm : MeterInv s) (t : TreeId) (round : Nat) :
    MeterInv (s.meterReceiveEnd t round) := by
  have hcounted := hm.calm (s.calm_countRounds t round)
  refine hcounted.cuts _ (hcounted.tags.1.sublist (List.filter_sublist.map _)) fun e he => ?_
  obtain ⟨hin, hpreparing⟩ := List.mem_filter.mp he
  simp only [Readout.preparingOn, Bool.and_eq_true, decide_eq_true_eq] at hpreparing
  obtain ⟨hstate, hon⟩ := hpreparing
  refine ⟨hin, hstate, ?_⟩
  cases hrange : e.range with
  | usage v first => exact ⟨v, first, rfl⟩
  | departed =>
    rw [hrange] at hon
    cases hon

theorem MeterInv.closeWindow (hm : MeterInv s) (t : TreeId) (levels : List Int) :
    MeterInv (s.closeWindow t levels) := by
  unfold State.closeWindow
  split
  · exact hm
  · refine MeterInv.meterReceiveEnd (MeterInv.calm ?_ (State.calm_monitorReceiveEnd _ t _ _)) t _
    refine hm.of_meter rfl fun v => ?_
    by_cases hv : v = t
    · subst hv
      rw [State.tree_modTree_self]
      exact Tree.holdsNoMore_of_homes rfl
    · rw [State.tree_modTree_other _ _ _ _ hv]
      exact Tree.holdsNoMore_refl _

end cut

/-! ### READ (R159, R162, R163) -/

section read
variable {s u : State} {e : Readout}

theorem markOldest_length (tag n : Nat) (l : List DepartedRecord) : (markOldest tag n l).length = l.length := by
  have hsame := congrArg List.length (markOldest_map tag n l)
  rwa [List.length_map, List.length_map] at hsame

/-- Marking with one tag leaves the records of another alone. -/
theorem markedWith_markOldest_other {tag other : Nat} (hne : other ≠ tag) (n : Nat) (l : List DepartedRecord) :
    markedWith other (markOldest tag n l) = markedWith other l := by
  induction l generalizing n with
  | nil => cases n <;> rfl
  | cons d l ih =>
    cases n with
    | zero => rfl
    | succ n =>
      unfold markedWith at ih ⊢
      rw [markOldest]
      cases hmark : d.mark with
      | none => simp [hmark, ih, hne.symm]
      | some k => simp [hmark, ih, List.filter_cons]

/-- At most `n` records are marked anew. -/
theorem markedWith_markOldest_self (tag n : Nat) (l : List DepartedRecord) :
    (markedWith tag (markOldest tag n l)).length ≤ n + (markedWith tag l).length := by
  induction l generalizing n with
  | nil => cases n <;> exact Nat.zero_le _
  | cons d l ih =>
    cases n with
    | zero => exact Nat.le_add_left _ _
    | succ n =>
      unfold markedWith at ih ⊢
      rw [markOldest]
      cases hmark : d.mark with
      | none =>
        have hrest := ih n
        simp only [List.filter_cons, hmark, decide_true, if_true, List.length_cons, reduceCtorEq, decide_false]
        simp only [Bool.false_eq_true, if_false]
        omega
      | some k =>
        have hrest := ih (n + 1)
        simp only [List.filter_cons, hmark]
        split
        · simp only [List.length_cons]; omega
        · exact hrest

/-- A new entry joins the table under the next tag, and only with that tag are records marked. -/
theorem MeterInv.joined (hm : MeterInv s) (hroom : s.meter.readouts.length < 4) (htag : e.tag = s.meter.nextTag)
    (horder : e.inOrder) (hreadouts : u.meter.readouts = s.meter.readouts ++ [e])
    (hnext : 1 ≤ u.meter.nextTag ∧ u.meter.nextTag ≤ 255
      ∧ u.meter.nextTag ∉ (s.meter.readouts ++ [e]).map Readout.tag)
    (hlength : u.meter.departed.length ≤ 32)
    (hothers : ∀ tag, tag ≠ e.tag →
      (markedWith tag u.meter.departed).length ≤ (markedWith tag s.meter.departed).length)
    (hown : e.range = .departed → (markedWith e.tag u.meter.departed).length ≤ e.count)
    (hnone : e.range ≠ .departed → markedWith e.tag u.meter.departed = [])
    (hheld : ∀ t, (s.tree t).holdsNoMore (u.tree t)) : MeterInv u := by
  obtain ⟨hm, hheldBefore⟩ := (meterInv_iff s).mp hm
  have hnew : ∀ x ∈ s.meter.readouts, x.tag ≠ e.tag := fun x hx => htag ▸ hm.nextTag.2.2 x hx
  have hmem : ∀ x ∈ u.meter.readouts, x ∈ s.meter.readouts ∨ x = e := fun x hx => by
    rw [hreadouts, List.mem_append, List.mem_singleton] at hx; exact hx
  have hold : ∀ x ∈ s.meter.readouts, x ∈ u.meter.readouts := fun x hx => by
    rw [hreadouts]; exact List.mem_append_left _ hx
  have hself : e ∈ u.meter.readouts := by rw [hreadouts]; exact List.mem_append_right _ List.mem_cons_self
  refine (meterInv_iff u).mpr ⟨⟨⟨?_, hlength⟩, ⟨?_, ?_⟩, ⟨hnext.1, hnext.2.1, ?_⟩, ?_, ?_, ?_⟩, ?_⟩
  · rw [hreadouts, List.length_append]; exact hroom
  · rw [hreadouts, List.map_append]
    refine List.nodup_append.mpr ⟨hm.tags.1, List.nodup_singleton _, fun n hn k hk => ?_⟩
    obtain ⟨x, hx, rfl⟩ := List.mem_map.mp hn
    rw [List.mem_singleton.mp hk]
    exact hnew x hx
  · intro x hx
    rcases hmem x hx with hx | rfl
    · exact hm.tags.2 x hx
    · rw [htag]; exact ⟨hm.nextTag.1, hm.nextTag.2.1⟩
  · intro x hx hsame
    rw [hreadouts] at hx
    exact hnext.2.2 (hsame ▸ List.mem_map_of_mem hx)
  · intro x hx
    rcases hmem x hx with hx | rfl
    · exact hm.entries x hx
    · exact horder
  · intro x hx hrange
    rcases hmem x hx with hx | rfl
    · exact (hothers x.tag (hnew x hx)).trans (hm.counts x hx hrange)
    · exact hown hrange
  · intro d hd tag hmark
    have hpos : 0 < (markedWith tag u.meter.departed).length :=
      List.length_pos_of_mem (List.mem_filter.mpr ⟨hd, decide_eq_true hmark⟩)
    by_cases hsame : tag = e.tag
    · subst hsame
      refine ⟨e, hself, rfl, by_contra fun hrange => ?_⟩
      rw [hnone hrange] at hpos
      cases hpos
    · obtain ⟨x, hx⟩ := List.exists_mem_of_length_pos (hpos.trans_le (hothers tag hsame))
      obtain ⟨hxin, hxmark⟩ := List.mem_filter.mp hx
      obtain ⟨y, hy, hytag, hyrange⟩ := hm.marks x hxin tag (of_decide_eq_true hxmark)
      exact ⟨y, hold y hy, hytag, hyrange⟩
  · intro t h tag hholds
    obtain ⟨hbefore, hgen⟩ := (hheld t).holdsFor hholds
    obtain ⟨y, hy, hytag, hcut⟩ := hheldBefore t h tag hbefore
    exact ⟨y, hold y hy, hytag, hgen ▸ hcut⟩

/-- The range and count of a READ, clamped (R160). -/
def ReadRange.inBounds (r : ReadRange) : Prop :=
  (∀ t first, r.range = .usage t first → 1 ≤ r.count ∧ r.count ≤ 6 ∧ first.val + r.count ≤ 128)
    ∧ (r.range = .departed → 1 ≤ r.count ∧ r.count ≤ 4)

theorem State.readRange_inBounds {kind tree first count : Nat} {r : ReadRange}
    (hr : s.readRange kind tree first count = some r) : r.inBounds := by
  rw [State.readRange_eq] at hr
  split at hr
  · cases hr
    refine ⟨fun t h heq => (by cases heq), fun _ => ?_⟩
    dsimp only
    split <;> omega
  · split at hr
    · split at hr
      · next hbounds =>
        split at hr
        · cases hr
          refine ⟨fun t h heq => ?_, fun heq => (by cases heq)⟩
          cases heq
          dsimp only
          split <;> omega
        · cases hr
      · cases hr
    · cases hr

/-- No departed record carries the next tag. -/
theorem MeterInv.nextTag_unmarked (hm : MeterInv s) : markedWith s.meter.nextTag s.meter.departed = [] := by
  refine List.filter_eq_nil_iff.mpr fun d hd hmark => ?_
  obtain ⟨x, hx, htag, -⟩ := hm.marks d hd _ (of_decide_eq_true hmark)
  exact hm.nextTag.2.2 x hx htag

theorem MeterInv.newReadout (hm : MeterInv s) (hroom : s.meter.readouts.length < 4) (sender : Nat)
    {r : ReadRange} (hr : r.inBounds) : MeterInv (s.newReadout sender r) := by
  obtain ⟨hlow, hhigh, -⟩ := hm.nextTag
  have hnext := s.newReadout_nextTag (sender := sender) (r := r)
  obtain ⟨k, -, -, hfree, hunused, -⟩ := freeTag_found hlow hhigh
    (tags := s.meter.readouts.map Readout.tag) (by rw [List.length_map]; exact hroom)
  have hnextIn : ∀ e : Readout, e.tag = s.meter.nextTag → 1 ≤ (s.newReadout sender r).meter.nextTag
      ∧ (s.newReadout sender r).meter.nextTag ≤ 255
      ∧ (s.newReadout sender r).meter.nextTag ∉ (s.meter.readouts ++ [e]).map Readout.tag := by
    intro e he
    rw [hnext, hfree, List.map_append, List.map_singleton, he]
    refine ⟨?_, ?_, hunused⟩
    · unfold laterTag; omega
    · unfold laterTag; omega
  cases hrange : r.range with
  | usage t first =>
    obtain ⟨hdeparted, hreadouts⟩ := s.newReadout_usage (sender := sender) hrange
    obtain ⟨h1, h2, h3⟩ := hr.1 t first hrange
    refine hm.joined hroom rfl ⟨fun v k hvk => ?_, fun hdep => ?_⟩ hreadouts (hnextIn _ rfl)
      (by rw [hdeparted]; exact hm.places.2) (fun tag _ => by rw [hdeparted])
      (fun hdep => ?_) (fun _ => by rw [hdeparted]; exact hm.nextTag_unmarked) fun v => Tree.holdsNoMore_refl _
    · cases hrange.symm.trans hvk
      exact ⟨h1, h2, h3, fun _ => ⟨rfl, rfl⟩, fun hnot => absurd rfl hnot⟩
    · cases hrange.symm.trans hdep
    · cases hrange.symm.trans hdep
  | departed =>
    obtain ⟨hdeparted, hreadouts⟩ := s.newReadout_departed (sender := sender) hrange
    obtain ⟨h1, h2⟩ := hr.2 hrange
    refine hm.joined hroom rfl ⟨fun v k hvk => ?_, fun _ => ⟨h1, h2, by simp, by simp, rfl⟩⟩ hreadouts
      (hnextIn _ rfl) (by rw [hdeparted, markOldest_length]; exact hm.places.2) (fun tag hne => ?_)
      (fun _ => ?_) (fun hnot => absurd hrange hnot) fun v => Tree.holdsNoMore_refl _
    · cases hrange.symm.trans hvk
    · rw [hdeparted, markedWith_markOldest_other hne]
    · have hcount := markedWith_markOldest_self s.meter.nextTag r.count s.meter.departed
      rw [hm.nextTag_unmarked] at hcount
      rw [hdeparted]
      exact hcount

theorem MeterInv.deliver (hm : MeterInv s) (he : e ∈ s.meter.readouts) (hcut : e.state ≠ .preparing) :
    MeterInv (s.deliver e) := by
  have horder := ((meterInv_iff s).mp hm).1
  have htimer : e.timer ≠ none := by
    obtain ⟨husage, hdep⟩ := horder.entries e he
    cases hrange : e.range with
    | usage t first =>
      obtain ⟨-, -, -, -, hready⟩ := husage t first hrange
      exact (hready hcut).1
    | departed =>
      obtain ⟨-, -, -, hruns, -⟩ := hdep hrange
      exact hruns
  refine hm.mapReadouts _ rfl rfl rfl (fun x hx => ?_) fun t => Tree.holdsNoMore_refl _
  split
  · next htag =>
    cases horder.tag_inj he hx htag
    exact ⟨rfl, rfl, rfl, rfl, iff_of_false (by simp) hcut, iff_of_false (by simp) htimer⟩
  · exact ⟨rfl, rfl, rfl, rfl, Iff.rfl, Iff.rfl⟩

theorem State.mem_of_matchRead {sender : Nat} {r : ReadRange} (hmatch : s.matchRead sender r = some e) :
    e ∈ s.meter.readouts := by
  rcases Option.or_eq_some_iff.mp hmatch with h | ⟨-, h⟩
  · exact List.mem_of_find?_eq_some h
  · split at h
    · exact List.mem_of_find?_eq_some h
    · cases h

theorem MeterInv.answerRead (hm : MeterInv s) (sender : Nat) {r : ReadRange} (hr : r.inBounds) :
    MeterInv (s.answerRead sender r) := by
  cases hmatch : s.matchRead sender r with
  | some e =>
    by_cases hstate : e.state = .preparing
    · rw [State.answerRead_preparing hmatch hstate]
      exact hm.calm (s.calm_post _ _ _)
    · rw [State.answerRead_cut hmatch hstate]
      exact (hm.deliver (State.mem_of_matchRead hmatch) hstate).calm (State.calm_post _ _ _ _)
  | none =>
    by_cases hroom : s.meter.readouts.length < 4
    · rw [State.answerRead_new hmatch hroom]
      exact (hm.newReadout hroom sender hr).calm (State.calm_post _ _ _ _)
    · rw [State.answerRead_busy hmatch (Nat.not_lt.mp hroom)]
      exact hm.calm (s.calm_post _ _ _)

end read

/-! ### The restart of a tree (R170) -/

section restart
variable {s : State} {e : Readout} {t : TreeId}

/-- No home of the tree is held in a snapshot. -/
def State.holdsNone (s : State) (t : TreeId) : Prop := ∀ h tag, ¬ s.holdsFor t h tag

/-- A readout of a tree that holds no home is ended; the other entries stay in the table. -/
theorem MeterInv.restartReadout (hm : MeterInv s) (hnone : s.holdsNone t) (he : e ∈ s.meter.readouts) :
    MeterInv (State.restartReadout t s e) ∧ (State.restartReadout t s e).holdsNone t
      ∧ ∀ x ∈ s.meter.readouts, x.tag ≠ e.tag → x ∈ (State.restartReadout t s e).meter.readouts := by
  have hstays : ∀ (a : State), a.meter.readouts = s.meter.readouts → ∀ x ∈ s.meter.readouts, x.tag ≠ e.tag →
      x ∈ (a.modMeter (·.free e.tag)).meter.readouts := fun a ha x hx hne =>
    List.mem_filter.mpr ⟨ha ▸ hx, by simp [hne]⟩
  have hsame : MeterInv s ∧ s.holdsNone t ∧ ∀ x ∈ s.meter.readouts, x.tag ≠ e.tag → x ∈ s.meter.readouts :=
    ⟨hm, hnone, fun x hx _ => hx⟩
  unfold State.restartReadout
  split
  · exact hsame
  · next v first hrange =>
    split
    · next htree =>
      subst htree
      split
      · next hpreparing =>
        refine ⟨hm.free e.tag (fun w k hholds => ?_) (hm.unmarked_of_usage he hrange), hnone, hstays s rfl⟩
        exact (hm.entry_of_held he hholds).1 hpreparing
      · next hready =>
        have hfold := State.calm_foldl State.calm_mergeRecord s e.snapshot
        rw [State.mergeBack_eq, hrange]
        refine ⟨hm.free_released he hrange State.calm_mergeRecord fun w k hholds => ?_, fun k tag hholds => ?_,
          hstays _ hfold.readouts⟩
        · obtain ⟨hcut, serial, interval, counters, hin⟩ := hm.entry_of_held he hholds
          obtain ⟨-, -, -, -, hplaces⟩ := hm.usage e he v first hrange
          have hplace : (w, k.val) ∈ (List.range' first.val e.count).map (fun n => (v, n)) := by
            rw [← (hplaces hcut).2]
            exact List.mem_map.mpr ⟨_, hin, rfl⟩
          obtain ⟨n, -, hn⟩ := List.mem_map.mp hplace
          cases hn
          exact absurd hholds (hnone k e.tag)
        · exact hnone k tag (hfold.holdsFor hholds).1
      · exact hsame
    · exact hsame

theorem MeterInv.restartReadouts (l : List Readout) (hm : MeterInv s) (hnone : s.holdsNone t)
    (hnodup : (l.map Readout.tag).Nodup) (hl : ∀ e ∈ l, e ∈ s.meter.readouts) :
    MeterInv (l.foldl (State.restartReadout t) s) := by
  induction l generalizing s with
  | nil => exact hm
  | cons e l ih =>
    rw [List.map_cons, List.nodup_cons] at hnodup
    obtain ⟨hended, hnone', hstays⟩ := hm.restartReadout hnone (hl e List.mem_cons_self)
    refine ih hended hnone' hnodup.2 fun x hx => hstays x (hl x (List.mem_cons_of_mem e hx)) fun htag => ?_
    exact hnodup.1 (htag ▸ List.mem_map_of_mem hx)

theorem MeterInv.restartTree (hm : MeterInv s) (hi : TableInv s) (t : TreeId) : MeterInv (s.restartTree t) := by
  have hemptied := hm.calm (s.calm_emptiedTree t)
  have hnone : (s.emptiedTree t).holdsNone t := by
    rintro h tag ⟨x, hx, -⟩
    obtain ⟨dark, hdark⟩ := (s.emptiedTree_spec t).inside h (mem_allHomes h)
    rw [hdark, State.restartedHome] at hx
    split at hx
    · next hfree =>
      rw [show (s.home t h).usage = none from hi.usage_of_free hfree] at hx
      cases hx
    · rw [hi.usageAfterHandOff t h] at hx
      cases hx
  have hended : MeterInv ((s.emptiedTree t).restartReadouts t) :=
    hemptied.restartReadouts _ hnone hemptied.tags.1 fun _ he => he
  rw [State.restartTree_unfold]
  refine hended.of_meter rfl fun v => ?_
  by_cases hv : v = t
  · subst hv
    rw [State.tree_modTree_self, State.tree_setTestDark_self]
    intro h x tag hx htag
    rw [Tree.home_restarted, Tree.home_mapHomes] at hx ⊢
    exact ⟨⟨x, hx, htag⟩, rfl⟩
  · rw [State.tree_modTree_other _ _ _ _ hv, State.setTestDark, State.tree_modTree_other _ _ _ _ hv]
    exact Tree.holdsNoMore_refl _

end restart

/-! ### The commands -/

section commands
variable {s u : State}

theorem MeterInv.whileUp {a : State} (hm : MeterInv s) (ha : MeterInv a) (hu : s.whileUp a = .next u) :
    MeterInv u := by
  rcases State.whileUp_cases hu with rfl | rfl
  · exact hm
  · exact ha

/-- A command that sets figures of the chip alone leaves the meter and the homes alone. -/
theorem MeterInv.of_same (hm : MeterInv s) (hmeter : u.meter = s.meter) (htrees : u.trees = s.trees) : MeterInv u :=
  hm.of_meter hmeter fun t => by rw [State.tree, State.tree, htrees]; exact Tree.holdsNoMore_refl _

theorem MeterInv.beginReset (hm : MeterInv s) (cause : ResetCause) : MeterInv (s.beginReset cause) := by
  refine hm.of_meter rfl fun v => ?_
  have htree : (s.beginReset cause).tree v
      = { s.tree v with tx := { (s.tree v).tx with taken := [] } } := State.tree_mapTrees _ _ v
  rw [htree]
  exact Tree.holdsNoMore_of_homes rfl

theorem MeterInv.openRound (hm : MeterInv s) : MeterInv s.openRound := by
  refine hm.mapReadouts Readout.atOpening rfl rfl rfl (fun x _ => ⟨rfl, rfl, rfl, rfl, Iff.rfl, ?_⟩) fun v => ?_
  · exact Option.map_eq_none_iff
  · rw [State.openRound_tree]
    intro h x tag hx htag
    rw [Tree.atOpening_home] at hx ⊢
    exact ⟨⟨x, hx, htag⟩, rfl⟩

theorem MeterInv.acceptSettings (hm : MeterInv s) (sender : Nat) (raw : Settings) :
    MeterInv (s.acceptSettings sender raw) := by
  refine hm.of_meter ?_ fun v => ?_
  · rw [State.acceptSettings, State.postHello, State.post_meter, State.post_meter]; rfl
  · rw [State.acceptSettings_tree]
    split
    · exact Tree.holdsNoMore_of_homes rfl
    · exact Tree.holdsNoMore_refl _

theorem exec_meter {c : Instr} (hi : TableInv s) (hm : MeterInv s)
    (hu : exec c s = .next u) : MeterInv u := by
  by_cases hcalm : setsFigures c = false ∧ setsReadouts c = false
  · exact hm.calm (exec_calm hcalm.1 hcalm.2 (fun _ v k => hi.usage_of_free) hu)
  · cases c with
    | powerOnReset => cases hu; exact hm.beginReset _
    | pinReset =>
      cases hu
      split
      · exact hm
      · exact hm.beginReset _
    | resetEnd straps =>
      cases hs : s.inReset with
      | none =>
        simp only [exec, execResetEnd, hs] at hu
        cases hu
        exact hm
      | some cause =>
        rw [exec_resetEnd straps hs] at hu
        cases hu
        exact meterInv_resetTo _ _ _ _
    | roundOpening => exact hm.whileUp hm.openRound hu
    | settings sender raw =>
      rcases exec_settings_cases hu with hkept | ⟨-, -, -, -, rfl⟩
      · exact hm.calm hkept
      · exact (hm.calm (s.calm_take _)).acceptSettings sender raw
    | demandReceived peer committed excess homes =>
      refine hm.whileUp ?_ hu
      dsimp only
      split <;> exact hm.of_same rfl rfl
    | epochEnd =>
      refine hm.whileUp ?_ hu
      split
      · refine MeterInv.calm ?_ (State.calm_post _ _ _ _)
        exact hm.of_same rfl rfl
      · exact hm
    | helloCountdownExpiry =>
      refine hm.whileUp ?_ hu
      split
      · exact (hm.calm (s.calm_post _ _ _)).of_same rfl rfl
      · exact hm
    | roundReceiveEnd t levels =>
      refine hm.whileUp ?_ hu
      split
      · exact ((hm.closeWindow t levels).calm (State.calm_openWindow _ t)).calm
          (State.calm_modTree_line _ t _ id rfl rfl)
      · exact hm
    | restart sender tree =>
      refine hm.whileUp ?_ hu
      dsimp only
      have htaken := hm.calm (s.calm_take (.restart sender tree))
      split
      · split
        · split
          · exact (htaken.restartTree (hi.take _) _).calm (State.calm_post _ _ _ _)
          · exact htaken.calm (State.calm_post _ _ _ _)
        · exact htaken.calm (State.calm_post _ _ _ _)
      · exact htaken
    | read sender kind tree first count =>
      refine hm.whileUp ?_ hu
      dsimp only
      have htaken := hm.calm (s.calm_take (.read sender kind tree first count))
      split
      · split
        · next r hr => exact htaken.answerRead sender (State.readRange_inBounds hr)
        · exact htaken.calm (State.calm_post _ _ _ _)
      · exact htaken
    | confirm sender tag =>
      refine hm.whileUp ?_ hu
      dsimp only
      have htaken := hm.calm (s.calm_take (.confirm sender tag))
      split
      · split
        · next e hfound =>
          exact (htaken.commit (hi.take _) (List.mem_of_find?_eq_some hfound)).calm (State.calm_post _ _ _ _)
        · exact htaken.calm (State.calm_post _ _ _ _)
      · exact htaken
    | pickupWaitExpiry tag =>
      refine hm.whileUp ?_ hu
      split
      · next e hfound =>
        refine MeterInv.mergeBack ?_ (hi.modMeter _) (List.mem_of_find?_eq_some hfound)
        exact hm.of_readouts rfl rfl hm.places.2 (fun _ => Nat.le_refl _) fun _ => Tree.holdsNoMore_refl _
      · exact hm
    | confirmWaitExpiry tag =>
      refine hm.whileUp ?_ hu
      split
      · next e hfound => exact hm.mergeBack hi (List.mem_of_find?_eq_some hfound)
      · exact hm
    | _ => exact absurd ⟨rfl, rfl⟩ hcalm

end commands

/-- Settles O57: each command keeps the readout table in order; one that ends an entry first releases the homes
that it holds. -/
theorem everyStepKeepsTheReadouts : Obligations.EveryStepKeepsTheReadouts := by
  intro s u hi hm hu
  rcases step_cases hu with rfl | ⟨c, rest, -, hexec⟩
  · exact hm
  · have hrest : MeterInv { s with pending := rest } := hm.of_same rfl rfl
    exact exec_meter (hi.withPending rest) hrest hexec

end Sys2Proof.Machine
end

section
/-! SUPPORT. The divisions of a plan build (sections 5.3 and 5.4): figures scaled and rounded down, and a pool
divided among claimants with the remainder in the order of a visit. -/

namespace Sys2Proof.Machine

/-! ### Figures scaled by `n / total` and rounded down -/

section floors
variable {α : Type} (f : α → Nat) (n total : Nat) (l : List α)

/-- The figures rounded down and their remainders make up the whole. -/
theorem sum_floors : total * (l.map (fun x => f x * n / total)).sum
    + (l.map (fun x => f x * n % total)).sum = (l.map f).sum * n := by
  induction l with
  | nil => simp
  | cons x l ih =>
    simp only [List.map_cons, List.sum_cons, Nat.mul_add, Nat.add_mul]
    have hone := Nat.div_add_mod (f x * n) total
    omega

/-- Each remainder is less than the divisor. -/
theorem sum_remainders_le (hpos : 0 < total) : (l.map (fun x => f x * n % total)).sum
    ≤ (l.filter (fun x => decide (f x * n % total ≠ 0))).length * (total - 1) := by
  induction l with
  | nil => exact Nat.zero_le _
  | cons x l ih =>
    have hless := Nat.mod_lt (f x * n) hpos
    simp only [List.map_cons, List.sum_cons]
    by_cases hzero : f x * n % total = 0
    · rw [List.filter_cons_of_neg (by simp [hzero]), hzero, Nat.zero_add]
      exact ih
    · rw [List.filter_cons_of_pos (by simp [hzero]), List.length_cons, Nat.add_mul, Nat.one_mul]
      omega

/-- Scaled by `n` over their total, the figures fall short of `n` by less than those that were rounded. -/
theorem floors_short (htotal : total = (l.map f).sum) (hpos : 0 < total) :
    (l.map (fun x => f x * n / total)).sum ≤ n
      ∧ ((l.map (fun x => f x * n / total)).sum = n
        ∨ n - (l.map (fun x => f x * n / total)).sum
          < (l.filter (fun x => decide (f x * n % total ≠ 0))).length) := by
  have hwhole := sum_floors f n total l
  have hremainders := sum_remainders_le f n total l hpos
  rw [← htotal] at hwhole
  generalize (l.map (fun x => f x * n / total)).sum = floors at *
  generalize (l.map (fun x => f x * n % total)).sum = remainders at *
  generalize (l.filter (fun x => decide (f x * n % total ≠ 0))).length = rounded at *
  have hle : floors ≤ n := Nat.le_of_mul_le_mul_left (by omega) hpos
  obtain ⟨gap, rfl⟩ := Nat.exists_eq_add_of_le hle
  rw [Nat.mul_add] at hwhole
  have hgap : remainders = total * gap := by omega
  refine ⟨hle, ?_⟩
  rw [Nat.add_sub_cancel_left]
  rcases Nat.eq_zero_or_pos gap with rfl | hgappos
  · exact .inl rfl
  · refine .inr (Nat.lt_of_mul_lt_mul_right (a := total) ?_)
    have hrounded : 0 < rounded := by
      rcases Nat.eq_zero_or_pos rounded with rfl | h
      · have hprod := Nat.mul_pos hpos hgappos
        omega
      · exact h
    have hstrict : rounded * (total - 1) < rounded * total :=
      Nat.mul_lt_mul_of_pos_left (Nat.sub_lt hpos Nat.one_pos) hrounded
    rw [Nat.mul_comm gap total]
    omega

end floors

theorem sum_ones {α : Type} (p : α → Prop) [DecidablePred p] (l : List α) :
    (l.map (fun x => if p x then 1 else 0)).sum = (l.filter (fun x => decide (p x))).length := by
  induction l with
  | nil => rfl
  | cons x l ih => by_cases hx : p x <;> simp [hx, ih]; omega

/-! ### The order of a visit (R99, R100) -/

/-- In a visit that starts at `pointer` and wraps, key `a` comes before key `b`. -/
def visitBefore (pointer a b : Nat) : Prop :=
  (pointer ≤ a ∧ (a < b ∨ b < pointer)) ∨ (a < b ∧ b < pointer)

theorem visitBefore.asymm {pointer a b : Nat} (hab : visitBefore pointer a b) : ¬ visitBefore pointer b a := by
  unfold visitBefore at *
  omega

theorem visitFrom_perm (pointer : Nat) (l : List Want) : (visitFrom pointer l).Perm l := by
  have hbelow : (fun w : Want => decide (w.key < pointer)) = fun w => !decide (pointer ≤ w.key) := by
    funext w
    rw [← decide_not]
    exact decide_eq_decide.mpr Nat.not_le.symm
  rw [visitFrom, hbelow]
  exact List.filter_append_perm _ l

theorem visitFrom_ordered (pointer : Nat) {l : List Want} (hl : l.Pairwise (fun a b => a.key < b.key)) :
    (visitFrom pointer l).Pairwise (fun a b => visitBefore pointer a.key b.key) := by
  have hwhere : ∀ (p : Want → Bool) a, a ∈ l.filter p → p a = true := fun p a ha => (List.mem_filter.mp ha).2
  refine List.pairwise_append.mpr ⟨?_, ?_, fun a ha b hb => ?_⟩
  · refine (hl.sublist List.filter_sublist).imp_of_mem fun {a b} ha _ hab => ?_
    have hfrom := of_decide_eq_true (hwhere _ a ha)
    exact .inl ⟨hfrom, .inl hab⟩
  · refine (hl.sublist List.filter_sublist).imp_of_mem fun {a b} _ hb hab => ?_
    have hbelow := of_decide_eq_true (hwhere _ b hb)
    exact .inr ⟨hab, hbelow⟩
  · have hfrom := of_decide_eq_true (hwhere _ a ha)
    have hbelow := of_decide_eq_true (hwhere _ b hb)
    exact .inl ⟨hfrom, .inr hbelow⟩

/-! ### A pool below what is wanted -/

section division
variable (pointer pool : Nat) (l : List Want)

/-- The part of a claimant, rounded down. -/
def partOf (pool : Nat) (l : List Want) (w : Want) : Nat := pool * w.want / wantTotal l

/-- The blocks that the parts leave. -/
def restOf (pool : Nat) (l : List Want) : Nat := pool - (l.map (partOf pool l)).sum

/-- The claimants whose part is short of their want, in the order visited. -/
def shortOf (pointer pool : Nat) (l : List Want) : List Want :=
  (visitFrom pointer l).filter (fun w => decide (partOf pool l w < w.want))

theorem gainers_eq : gainers pointer pool l = ((shortOf pointer pool l).take (restOf pool l)).map Want.key := rfl

variable {pointer pool l}

theorem allot_enough (hpool : wantTotal l ≤ pool) (w : Want) : allot pointer pool l w = w.want := if_pos hpool

theorem allot_short (hpool : pool < wantTotal l) (w : Want) : allot pointer pool l w =
    partOf pool l w + if w.key ∈ gainers pointer pool l then 1 else 0 := by
  rw [allot, if_neg (Nat.not_le.mpr hpool)]
  simp only [List.contains_iff_mem]
  rfl

theorem partOf_le (hpool : pool ≤ wantTotal l) (w : Want) : partOf pool l w ≤ w.want := by
  refine Nat.div_le_of_le_mul ?_
  exact Nat.mul_le_mul_right _ hpool

/-- The parts keep to the pool, and what they leave is less than the claimants that are short. -/
theorem restOf_le (hpool : pool < wantTotal l) : (l.map (partOf pool l)).sum + restOf pool l = pool
    ∧ restOf pool l ≤ (shortOf pointer pool l).length := by
  have hpos : 0 < wantTotal l := (Nat.zero_le pool).trans_lt hpool
  have hparts : l.map (partOf pool l) = l.map (fun w => w.want * pool / wantTotal l) :=
    List.map_congr_left fun w _ => by rw [partOf, Nat.mul_comm]
  obtain ⟨hle, hrest⟩ := floors_short Want.want pool (wantTotal l) l rfl hpos
  rw [← hparts] at hle hrest
  refine ⟨Nat.add_sub_cancel' hle, ?_⟩
  have hshort : (l.filter (fun w => decide (w.want * pool % wantTotal l ≠ 0))).length
      ≤ (shortOf pointer pool l).length := by
    rw [shortOf, ((visitFrom_perm pointer l).filter _).length_eq]
    refine (List.monotone_filter_right l fun w hw => ?_).length_le
    have hmod : w.want * pool % wantTotal l ≠ 0 := of_decide_eq_true hw
    have hwant : 0 < w.want := Nat.pos_of_ne_zero fun hzero => hmod (by rw [hzero, Nat.zero_mul, Nat.zero_mod])
    refine decide_eq_true ((Nat.div_lt_iff_lt_mul hpos).mpr ?_)
    rw [Nat.mul_comm]
    exact Nat.mul_lt_mul_of_pos_left hpool hwant
  unfold restOf
  rcases hrest with hall | hless
  · omega
  · exact (Nat.le_of_lt hless).trans hshort

/-- The claimants that gain one block of the remainder. -/
def favoured (pointer pool : Nat) (l : List Want) : List Want :=
  (shortOf pointer pool l).take (restOf pool l)

theorem mem_of_mem_shortOf {w : Want} (hw : w ∈ shortOf pointer pool l) : w ∈ l :=
  (visitFrom_perm pointer l).mem_iff.mp (List.mem_of_mem_filter hw)

theorem mem_of_mem_favoured {w : Want} (hw : w ∈ favoured pointer pool l) : w ∈ l :=
  mem_of_mem_shortOf (List.mem_of_mem_take hw)

theorem short_of_favoured {w : Want} (hw : w ∈ favoured pointer pool l) : partOf pool l w < w.want :=
  of_decide_eq_true (List.mem_filter.mp (List.mem_of_mem_take hw)).2

theorem favoured_length (hpool : pool < wantTotal l) : (favoured pointer pool l).length = restOf pool l :=
  List.length_take_of_le (restOf_le hpool).2

section distinct
variable (hl : l.Pairwise (fun a b => a.key < b.key))
include hl

theorem want_eq_of_key {v w : Want} (hv : v ∈ l) (hw : w ∈ l) (hkey : v.key = w.key) : v = w :=
  List.inj_on_of_nodup_map ((List.pairwise_map.mpr hl).imp Nat.ne_of_lt) hv hw hkey

theorem wants_nodup : l.Nodup := hl.imp fun hless heq => Nat.ne_of_lt hless (congrArg Want.key heq)

theorem key_mem_gainers {w : Want} (hw : w ∈ l) : w.key ∈ gainers pointer pool l ↔ w ∈ favoured pointer pool l := by
  rw [gainers_eq]
  refine ⟨fun hkey => ?_, List.mem_map_of_mem⟩
  obtain ⟨v, hv, hkeys⟩ := List.mem_map.mp hkey
  rwa [← want_eq_of_key hl (mem_of_mem_favoured hv) hw hkeys]

theorem allot_of_favoured (hpool : pool < wantTotal l) {w : Want} (hw : w ∈ favoured pointer pool l) :
    allot pointer pool l w = partOf pool l w + 1 := by
  rw [allot_short hpool, if_pos ((key_mem_gainers hl (mem_of_mem_favoured hw)).mpr hw)]

theorem allot_of_not_favoured (hpool : pool < wantTotal l) {w : Want} (hmem : w ∈ l)
    (hw : w ∉ favoured pointer pool l) : allot pointer pool l w = partOf pool l w := by
  rw [allot_short hpool, if_neg (fun h => hw ((key_mem_gainers hl hmem).mp h)), Nat.add_zero]

theorem favoured_iff (hpool : pool < wantTotal l) {w : Want} (hmem : w ∈ l) :
    w ∈ favoured pointer pool l ↔ allot pointer pool l w = partOf pool l w + 1 := by
  refine ⟨allot_of_favoured hl hpool, fun h => ?_⟩
  by_contra hnot
  rw [allot_of_not_favoured hl hpool hmem hnot] at h
  omega

/-- Nobody is allotted less than their part, nor more than one block above it, nor more than they want. -/
theorem allot_bounds (hpool : pool < wantTotal l) {w : Want} (hmem : w ∈ l) :
    partOf pool l w ≤ allot pointer pool l w ∧ allot pointer pool l w ≤ partOf pool l w + 1
      ∧ allot pointer pool l w ≤ w.want := by
  by_cases hw : w ∈ favoured pointer pool l
  · rw [allot_of_favoured hl hpool hw]
    exact ⟨Nat.le_succ _, Nat.le_refl _, short_of_favoured hw⟩
  · rw [allot_of_not_favoured hl hpool hmem hw]
    exact ⟨Nat.le_refl _, Nat.le_succ _, partOf_le (Nat.le_of_lt hpool) w⟩

theorem allot_le_want {w : Want} (hmem : w ∈ l) : allot pointer pool l w ≤ w.want := by
  rcases Nat.lt_or_ge pool (wantTotal l) with hshort | henough
  · exact (allot_bounds hl hshort hmem).2.2
  · exact Nat.le_of_eq (allot_enough henough w)

/-- One block goes to each of the favoured. -/
theorem sum_gains : (l.map (fun w => if w.key ∈ gainers pointer pool l then 1 else 0)).sum
    = (favoured pointer pool l).length := by
  have hperm : (l.filter (fun w => decide (w.key ∈ gainers pointer pool l))).Perm (favoured pointer pool l) := by
    refine (List.perm_ext_iff_of_nodup ((wants_nodup hl).filter _) ?_).mpr fun w => ?_
    · exact (((visitFrom_perm pointer l).nodup_iff.mpr (wants_nodup hl)).filter _).sublist (List.take_sublist _ _)
    · rw [List.mem_filter, decide_eq_true_iff]
      exact ⟨fun ⟨hmem, hkey⟩ => (key_mem_gainers hl hmem).mp hkey,
        fun hw => ⟨mem_of_mem_favoured hw, (key_mem_gainers hl (mem_of_mem_favoured hw)).mpr hw⟩⟩
  rw [← hperm.length_eq]
  exact sum_ones _ l

/-- A pool below what is wanted is spent whole. -/
theorem sum_allot_short (hpool : pool < wantTotal l) : (l.map (allot pointer pool l)).sum = pool := by
  have hparts : (l.map (allot pointer pool l)).sum = (l.map (partOf pool l)).sum
      + (l.map (fun w => if w.key ∈ gainers pointer pool l then 1 else 0)).sum := by
    rw [← List.sum_map_add]
    exact congrArg List.sum (List.map_congr_left fun w _ => allot_short hpool w)
  rw [hparts, sum_gains hl, favoured_length hpool]
  exact (restOf_le (pointer := pointer) hpool).1

theorem sum_allot_le : (l.map (allot pointer pool l)).sum ≤ pool := by
  rcases Nat.lt_or_ge pool (wantTotal l) with hshort | henough
  · exact Nat.le_of_eq (sum_allot_short hl hshort)
  · rw [List.map_congr_left fun w _ => allot_enough henough w]
    exact henough

/-- The favoured come before the others that are short. -/
theorem favoured_first {v w : Want} (hv : v ∈ favoured pointer pool l) (hw : w ∈ l)
    (hshort : partOf pool l w < w.want) (hnot : w ∉ favoured pointer pool l) : visitBefore pointer v.key w.key := by
  have hordered := (visitFrom_ordered pointer hl).filter (fun w => decide (partOf pool l w < w.want))
  rw [← List.take_append_drop (restOf pool l) (List.filter _ _)] at hordered
  refine (List.pairwise_append.mp hordered).2.2 v hv w ?_
  have hmem : w ∈ shortOf pointer pool l :=
    List.mem_filter.mpr ⟨(visitFrom_perm pointer l).mem_iff.mpr hw, decide_eq_true hshort⟩
  rw [shortOf, ← List.take_append_drop (restOf pool l) (List.filter _ _)] at hmem
  exact (List.mem_append.mp hmem).resolve_left hnot

theorem favoured_ordered : (favoured pointer pool l).Pairwise (fun a b => visitBefore pointer a.key b.key) :=
  ((visitFrom_ordered pointer hl).filter _).sublist (List.take_sublist _ _)

end distinct

theorem pointerAfter_enough (modulus : Nat) (hpool : wantTotal l ≤ pool) :
    pointerAfter modulus pointer pool l = pointer := if_pos hpool

theorem pointerAfter_none (modulus : Nat) (hnone : favoured pointer pool l = []) :
    pointerAfter modulus pointer pool l = pointer := by
  have hempty : gainers pointer pool l = [] := congrArg (List.map Want.key) hnone
  unfold pointerAfter
  rw [hempty]
  exact ite_self _

/-- The pointer moves past the favoured claimant that all others come before. -/
theorem pointerAfter_last (modulus : Nat) (hl : l.Pairwise (fun a b => a.key < b.key))
    (hpool : pool < wantTotal l) {v : Want} (hv : v ∈ favoured pointer pool l)
    (hlast : ∀ w ∈ favoured pointer pool l, w ≠ v → visitBefore pointer w.key v.key) :
    pointerAfter modulus pointer pool l = (v.key + 1) % modulus := by
  have hgetLast : (favoured pointer pool l).getLast? = some v := by
    obtain ⟨before, after, hsplit⟩ := List.append_of_mem hv
    cases hafter : after with
    | nil => rw [hsplit, hafter, List.getLast?_concat]
    | cons w rest =>
      have hordered := favoured_ordered (pointer := pointer) (pool := pool) hl
      have hw : w ∈ favoured pointer pool l := by rw [hsplit, hafter]; simp
      rw [hsplit, hafter] at hordered
      have hvw : visitBefore pointer v.key w.key :=
        List.rel_of_pairwise_cons (List.pairwise_append.mp hordered).2.1 List.mem_cons_self
      by_cases hsame : w = v
      · rw [hsame] at hvw
        exact absurd hvw hvw.asymm
      · exact absurd hvw (hlast w hw hsame).asymm
  have hgainer : (gainers pointer pool l).getLast? = some v.key := by
    rw [gainers_eq, List.getLast?_map]
    exact congrArg (Option.map Want.key) hgetLast
  unfold pointerAfter
  rw [if_neg (Nat.not_le.mpr hpool), hgainer]

end division

end Sys2Proof.Machine
end

section
/-! SUPPORT. The committed stage of a plan build (section 5.3), and what a build leaves each enabled tree with
(sections 5.5 and 5.6): its plan, whose grants stand end to end and carry what the divisions make of the demands. -/

namespace Sys2Proof.Machine

/-! ### The committed stage (R96, R97) -/

theorem TreeBuild.fit_within {b : TreeBuild} (hroom : committedTotal b.asks ≤ b.room) : b.fit = b := if_pos hroom

theorem TreeBuild.fit_over {b : TreeBuild} (hroom : b.room < committedTotal b.asks) :
    b.fit = { b with asks := b.asks.map (Ask.scale b.room (committedTotal b.asks)), scaled := true } :=
  if_neg (Nat.not_le.mpr hroom)

theorem fitShare_within {share : Nat} {bs : List TreeBuild} (hshare : chipTotal bs ≤ share) :
    fitShare share bs = (bs, false) := if_pos hshare

theorem fitShare_over {share : Nat} {bs : List TreeBuild} (hshare : share < chipTotal bs) :
    fitShare share bs
      = (bs.map (fun b => { b with asks := b.asks.map (Ask.scale share (chipTotal bs)) }), true) :=
  if_neg (Nat.not_le.mpr hshare)

theorem committedTotal_scale (num den : Nat) (asks : List Ask) : committedTotal (asks.map (Ask.scale num den))
    = (asks.map (fun a => a.committed * num / den)).sum := by
  rw [committedTotal, List.map_map]
  rfl

/-- A tree over its room is scaled to it, short by less than the figures that were rounded. -/
theorem TreeBuild.fit_over_total {b : TreeBuild} (hroom : b.room < committedTotal b.asks) :
    committedTotal b.fit.asks ≤ b.room ∧ (committedTotal b.fit.asks = b.room
      ∨ b.room - committedTotal b.fit.asks
        < (b.asks.filter (fun a => decide (a.committed * b.room % committedTotal b.asks ≠ 0))).length) := by
  rw [TreeBuild.fit_over hroom]
  dsimp only
  rw [committedTotal_scale]
  exact floors_short Ask.committed b.room _ b.asks rfl ((Nat.zero_le _).trans_lt hroom)

/-- Figures summed tree by tree are those of all trees in one list. -/
theorem sum_by_tree (f : Ask → Nat) (bs : List TreeBuild) : (bs.map (fun b => (b.asks.map f).sum)).sum
    = ((bs.flatMap TreeBuild.asks).map f).sum := by
  rw [List.map_flatMap, List.flatMap_def, List.sum_flatten, List.map_map]
  rfl

theorem chipTotal_over {share : Nat} {bs : List TreeBuild} (hshare : share < chipTotal bs) :
    chipTotal (fitShare share bs).1 ≤ share := by
  have hscaled : chipTotal (fitShare share bs).1
      = ((bs.flatMap TreeBuild.asks).map (fun a => a.committed * share / chipTotal bs)).sum := by
    rw [fitShare_over hshare, ← sum_by_tree, chipTotal, List.map_map]
    exact congrArg List.sum (List.map_congr_left fun b _ => committedTotal_scale _ _ _)
  rw [hscaled]
  exact (floors_short Ask.committed share _ _ (sum_by_tree Ask.committed bs) ((Nat.zero_le _).trans_lt hshare)).1

/-- After the fit to the share, the chip's committed total is within it. -/
theorem chipTotal_fitShare (share : Nat) (bs : List TreeBuild) : chipTotal (fitShare share bs).1 ≤ share := by
  rcases Nat.lt_or_ge share (chipTotal bs) with hover | hwithin
  · exact chipTotal_over hover
  · rw [fitShare_within hwithin]
    exact hwithin

/-! ### A build with its committed figures cut -/

/-- An ask with its committed figure cut. -/
def Ask.cut (g : Nat → Nat) (a : Ask) : Ask := { a with committed := g a.committed }

/-- `b` is `a` with the committed figures cut by one rule that raises none. -/
def TreeBuild.cutTo (a b : TreeBuild) : Prop :=
  b.tree = a.tree ∧ b.call = a.call ∧ ∃ g : Nat → Nat, (∀ c, g c ≤ c) ∧ b.asks = a.asks.map (Ask.cut g)

theorem TreeBuild.cutTo_refl (a : TreeBuild) : a.cutTo a :=
  ⟨rfl, rfl, id, fun c => Nat.le_refl c, (List.map_id _).symm⟩

theorem TreeBuild.cutTo.trans {a b d : TreeBuild} (hab : a.cutTo b) (hbd : b.cutTo d) : a.cutTo d := by
  obtain ⟨htree, hcall, g, hg, hasks⟩ := hab
  obtain ⟨htree', hcall', g', hg', hasks'⟩ := hbd
  refine ⟨htree'.trans htree, hcall'.trans hcall, g' ∘ g, fun c => (hg' _).trans (hg c), ?_⟩
  rw [hasks', hasks, List.map_map]
  rfl

theorem scale_le {num den c : Nat} (h : num ≤ den) : c * num / den ≤ c :=
  Nat.div_le_of_le_mul (by rw [Nat.mul_comm den]; exact Nat.mul_le_mul_left c h)

theorem TreeBuild.cutTo_fit (b : TreeBuild) : b.cutTo b.fit := by
  rcases Nat.lt_or_ge b.room (committedTotal b.asks) with hover | hwithin
  · rw [TreeBuild.fit_over hover]
    exact ⟨rfl, rfl, fun c => c * b.room / committedTotal b.asks, fun c => scale_le (Nat.le_of_lt hover), rfl⟩
  · rw [TreeBuild.fit_within hwithin]
    exact b.cutTo_refl

theorem cutTo_of_mem_fitShare {share : Nat} {bs : List TreeBuild} {b : TreeBuild} (hb : b ∈ (fitShare share bs).1) :
    ∃ a ∈ bs, a.cutTo b ∧ b.scaled = a.scaled := by
  rcases Nat.lt_or_ge share (chipTotal bs) with hover | hwithin
  · rw [fitShare_over hover] at hb
    obtain ⟨a, ha, rfl⟩ := List.mem_map.mp hb
    exact ⟨a, ha, ⟨rfl, rfl, fun c => c * share / chipTotal bs, fun c => scale_le (Nat.le_of_lt hover), rfl⟩, rfl⟩
  · rw [fitShare_within hwithin] at hb
    exact ⟨b, hb, b.cutTo_refl, rfl⟩

theorem TreeBuild.cutTo.room {a b : TreeBuild} (h : a.cutTo b) : b.room = a.room := by
  obtain ⟨-, hcall, g, -, hasks⟩ := h
  rw [TreeBuild.room, TreeBuild.room, hcall, hasks, List.length_map]

theorem TreeBuild.cutTo.committedTotal_le {a b : TreeBuild} (h : a.cutTo b) :
    committedTotal b.asks ≤ committedTotal a.asks := by
  obtain ⟨-, -, g, hg, hasks⟩ := h
  rw [hasks, committedTotal, List.map_map]
  exact List.sum_le_sum fun x _ => hg x.committed

theorem TreeBuild.fit_total_le (b : TreeBuild) : committedTotal b.fit.asks ≤ b.room := by
  rcases Nat.lt_or_ge b.room (committedTotal b.asks) with hover | hwithin
  · exact (TreeBuild.fit_over_total hover).1
  · rw [TreeBuild.fit_within hwithin]
    exact hwithin

/-! ### The builds of a division -/

section division
variable (s : State)

/-- What a tree asks for before its figures are fitted. -/
def State.askedOf (t : TreeId) : TreeBuild := { tree := t, call := s.discovers t, asks := s.asks t, scaled := false }

theorem State.builds_eq : s.division.builds
    = (fitShare s.share.share (s.enabledTrees.map fun t => (s.askedOf t).fit)).1 := rfl

variable {s} {b : TreeBuild}

theorem State.cutTo_of_build (hb : b ∈ s.division.builds) : (s.askedOf b.tree).cutTo b := by
  rw [State.builds_eq] at hb
  obtain ⟨a, ha, hcut, -⟩ := cutTo_of_mem_fitShare hb
  obtain ⟨t, -, rfl⟩ := List.mem_map.mp ha
  have hasked := (s.askedOf t).cutTo_fit.trans hcut
  rw [show b.tree = t from hasked.1]
  exact hasked

theorem State.build_call (hb : b ∈ s.division.builds) : b.call = s.discovers b.tree := (State.cutTo_of_build hb).2.1

/-- Each ask of a build is one of its tree's, with no more committed. -/
theorem State.ask_of_build (hb : b ∈ s.division.builds) {a : Ask} (ha : a ∈ b.asks) :
    a.generation = (s.record b.tree a.home).generation ∧ a.committed ≤ s.committedOf (s.record b.tree a.home)
      ∧ a.excess = s.excessOf (s.record b.tree a.home) := by
  obtain ⟨-, -, g, hg, hasks⟩ := State.cutTo_of_build hb
  rw [hasks] at ha
  obtain ⟨x, hx, rfl⟩ := List.mem_map.mp ha
  obtain ⟨h, -, rfl⟩ := List.mem_map.mp hx
  exact ⟨rfl, hg _, rfl⟩

theorem State.build_homes (hb : b ∈ s.division.builds) : b.asks.map Ask.home
    = allHomes.filter (fun h => s.serves (s.record b.tree h)) := by
  obtain ⟨-, -, g, -, hasks⟩ := State.cutTo_of_build hb
  rw [hasks, State.askedOf, State.asks, List.map_map, List.map_map]
  exact List.map_id _

theorem State.build_homes_sorted (hb : b ∈ s.division.builds) : (b.asks.map Ask.home).Pairwise (· < ·) := by
  rw [State.build_homes hb]
  exact allHomes_sorted.filter _

theorem State.build_homes_length (hb : b ∈ s.division.builds) : b.asks.length ≤ 128 := by
  have hlength := congrArg List.length (State.build_homes hb)
  rw [List.length_map] at hlength
  rw [hlength]
  exact (List.length_filter_le _ _).trans (Nat.le_of_eq (List.length_finRange ..))

theorem State.homeWants_sorted (hb : b ∈ s.division.builds) :
    (homeWants b.asks).Pairwise (fun v w => v.key < w.key) :=
  List.pairwise_map.mpr ((List.pairwise_map.mp (State.build_homes_sorted hb)).imp Fin.lt_def.mp)

theorem State.treeWants_sorted : (treeWants s.division.builds).Pairwise (fun v w => v.key < w.key) := by
  have hsorted : (s.division.builds.map TreeBuild.tree).Pairwise (· < ·) := by
    rw [State.division_trees]
    exact (show allTrees.Pairwise (· < ·) by decide).filter _
  exact List.pairwise_map.mpr ((List.pairwise_map.mp hsorted).imp Fin.lt_def.mp)

/-- The committed demand with the spare room keeps to the room (R98). -/
theorem State.spare_le (hb : b ∈ s.division.builds) : committedTotal b.asks + b.spare ≤ b.room := by
  have hroom : committedTotal b.asks ≤ b.room := by
    rw [State.builds_eq] at hb
    obtain ⟨a, ha, hcut, -⟩ := cutTo_of_mem_fitShare hb
    obtain ⟨t, -, rfl⟩ := List.mem_map.mp ha
    rw [hcut.room, (s.askedOf t).cutTo_fit.room]
    exact hcut.committedTotal_le.trans (TreeBuild.fit_total_le _)
  unfold TreeBuild.spare
  split <;> omega

/-- The committed demand of the chip with the pool keeps to the share (R98). -/
theorem State.pool_le (s : State) : chipTotal s.division.builds + s.division.pool ≤ s.share.share := by
  have htotal : chipTotal s.division.builds ≤ s.share.share := chipTotal_fitShare _ _
  have hpool : s.division.pool = 0 ∨ s.division.pool = s.share.share - chipTotal s.division.builds := by
    change poolOf _ _ _ = 0 ∨ poolOf _ _ _ = _
    unfold poolOf
    split
    · exact .inl rfl
    · exact .inr rfl
  omega

/-! ### The excess stage (R99, R100) -/

theorem State.allotmentOf_le (hb : b ∈ s.division.builds) : s.allotmentOf b ≤ b.spare :=
  (allot_le_want State.treeWants_sorted
    (List.mem_map_of_mem (f := fun b : TreeBuild => Want.mk b.tree.val (min (excessTotal b.asks) b.spare)) hb)).trans
    (Nat.min_le_right _ _)

theorem State.sum_allotmentOf (s : State) : (s.division.builds.map s.allotmentOf).sum ≤ s.division.pool := by
  have hsum := sum_allot_le (pointer := s.treePointer) (pool := s.division.pool) (State.treeWants_sorted (s := s))
  rw [treeWants, List.map_map] at hsum
  exact hsum

/-- The part of a home in what its tree was allotted. -/
def State.excessPart (s : State) (b : TreeBuild) (a : Ask) : Nat :=
  allot (s.tree b.tree).homePointer (s.allotmentOf b) (homeWants b.asks) ⟨a.home.val, a.excess⟩

theorem State.payloadOf_eq (s : State) (b : TreeBuild) (a : Ask) :
    s.payloadOf b a = a.committed + s.excessPart b a := rfl

theorem State.excessPart_le (hb : b ∈ s.division.builds) {a : Ask} (ha : a ∈ b.asks) :
    s.excessPart b a ≤ a.excess :=
  allot_le_want (State.homeWants_sorted hb)
    (List.mem_map_of_mem (f := fun a : Ask => Want.mk a.home.val a.excess) ha)

theorem State.sum_payloadOf_le (hb : b ∈ s.division.builds) :
    (b.asks.map (s.payloadOf b)).sum ≤ committedTotal b.asks + s.allotmentOf b := by
  have hparts := sum_allot_le (pointer := (s.tree b.tree).homePointer) (pool := s.allotmentOf b)
    (State.homeWants_sorted hb)
  have hparts' : (b.asks.map (s.excessPart b)).sum ≤ s.allotmentOf b := by
    rwa [homeWants, List.map_map] at hparts
  have hsum : (b.asks.map (s.payloadOf b)).sum = committedTotal b.asks + (b.asks.map (s.excessPart b)).sum :=
    List.sum_map_add
  omega

/-- No home is granted more than its whole demand (R93, R102). -/
theorem State.payloadOf_le (hb : b ∈ s.division.builds) {a : Ask} (ha : a ∈ b.asks)
    (hrates : (s.ratesOf (s.record b.tree a.home)).cr ≤ (s.ratesOf (s.record b.tree a.home)).pr) :
    s.payloadOf b a ≤ s.wholeOf (s.record b.tree a.home) := by
  obtain ⟨-, hcommitted, hexcess⟩ := State.ask_of_build hb ha
  have hpart := State.excessPart_le hb ha
  rw [State.payloadOf_eq]
  unfold State.committedOf committedDemand at hcommitted
  unfold State.excessOf excessDemand committedDemand at hexcess
  unfold State.wholeOf
  have hle : min (s.record b.tree a.home).waiting (s.ratesOf (s.record b.tree a.home)).cr
      ≤ wholeDemand (s.ratesOf (s.record b.tree a.home)) ((s.record b.tree a.home).throttled.getD false)
        (s.record b.tree a.home).waiting := by
    unfold wholeDemand peakOf
    split <;> omega
  omega

end division

/-! ### Placement (R103) -/

theorem place_payloads (start : Nat) (l : List (Ask × Nat)) : (place start l).map Grant.payload = l.map Prod.snd := by
  induction l generalizing start with
  | nil => rfl
  | cons x l ih => exact congrArg (x.2 :: ·) (ih _)

theorem place_homes (start : Nat) (l : List (Ask × Nat)) :
    (place start l).map Grant.home = l.map (fun x => x.1.home) := by
  induction l generalizing start with
  | nil => rfl
  | cons x l ih => exact congrArg (x.1.home :: ·) (ih _)

/-- Each grant is that of one of those placed. -/
theorem mem_place {start : Nat} {l : List (Ask × Nat)} {g : Grant} (hg : g ∈ place start l) :
    start ≤ g.start ∧ ∃ x ∈ l, g.home = x.1.home ∧ g.payload = x.2 ∧ g.generation = x.1.generation := by
  induction l generalizing start with
  | nil => cases hg
  | cons x l ih =>
    rcases List.mem_cons.mp hg with rfl | hg
    · exact ⟨Nat.le_refl _, x, List.mem_cons_self, rfl, rfl, rfl⟩
    · obtain ⟨hstart, y, hy, hfields⟩ := ih hg
      exact ⟨by omega, y, List.mem_cons_of_mem _ hy, hfields⟩

/-- A grant starts where those before it end, and those after it start after its end. -/
theorem place_starts {start : Nat} {l : List (Ask × Nat)} {before after : List Grant} {g : Grant}
    (hsplit : place start l = before ++ g :: after) :
    g.start = start + (before.map (fun k => 2 + k.payload)).sum
      ∧ ∀ k ∈ after, g.start + 2 + g.payload ≤ k.start := by
  induction before generalizing start l with
  | nil =>
    cases l with
    | nil => cases hsplit
    | cons x l =>
      obtain ⟨rfl, rfl⟩ := List.cons.inj hsplit
      exact ⟨rfl, fun k hk => (mem_place hk).1⟩
  | cons k before ih =>
    cases l with
    | nil => cases hsplit
    | cons x l =>
      obtain ⟨rfl, hrest⟩ := List.cons.inj hsplit
      obtain ⟨hstart, hafter⟩ := ih hrest
      refine ⟨?_, hafter⟩
      rw [hstart, List.map_cons, List.sum_cons]
      dsimp only
      omega

/-! ### The plan of a build -/

section plan
variable {s : State} {b : TreeBuild}

theorem State.planOf_payloads (s : State) (b : TreeBuild) :
    (s.planOf b).grants.map Grant.payload = b.asks.map (s.payloadOf b) := by
  rw [State.planOf, place_payloads, List.map_map]
  rfl

theorem State.planOf_homes (s : State) (b : TreeBuild) :
    (s.planOf b).grants.map Grant.home = b.asks.map Ask.home := by
  rw [State.planOf, place_homes, List.map_map]
  rfl

theorem State.planOf_homes_sorted (hb : b ∈ s.division.builds) :
    (s.planOf b).grants.Pairwise (fun g k => g.home < k.home) := by
  rw [← List.pairwise_map (f := Grant.home) (R := (· < ·)), State.planOf_homes]
  exact State.build_homes_sorted hb

theorem State.mem_planOf {g : Grant} (hg : g ∈ (s.planOf b).grants) :
    ∃ a ∈ b.asks, g.home = a.home ∧ g.payload = s.payloadOf b a ∧ g.generation = a.generation := by
  obtain ⟨-, x, hx, hfields⟩ := mem_place hg
  obtain ⟨a, ha, rfl⟩ := List.mem_map.mp hx
  exact ⟨a, ha, hfields⟩

/-- The payloads with two blocks for each burst and the discovery window keep to 3960 blocks. -/
theorem State.planOf_fits (hb : b ∈ s.division.builds) : (s.planOf b).payload
    + 2 * (s.planOf b).grants.length + (if (s.planOf b).call then 2000 else 0) ≤ 3960 := by
  have hlength : (s.planOf b).grants.length = b.asks.length := by
    have hhomes := congrArg List.length (s.planOf_homes b)
    rwa [List.length_map, List.length_map] at hhomes
  have hpayload : (s.planOf b).payload ≤ committedTotal b.asks + s.allotmentOf b := by
    rw [Plan.payload, State.planOf_payloads]
    exact State.sum_payloadOf_le hb
  have hallotment := State.allotmentOf_le hb
  have hspare := State.spare_le hb
  have hcount := State.build_homes_length hb
  have hroom : b.room = 4000 - 40 - (if b.call then 2000 else 0) - 2 * b.asks.length := rfl
  rw [hlength, show (s.planOf b).call = b.call from rfl]
  have hwindow : (if b.call then 2000 else 0) ≤ 2000 := by split <;> decide
  omega

/-! ### What a plan build leaves -/

theorem State.build_of_enabled {t : TreeId} (hon : s.enabled t = true) : ∃ b ∈ s.division.builds, b.tree = t := by
  have hmem : t ∈ s.enabledTrees := List.mem_filter.mpr ⟨(show ∀ t, t ∈ allTrees by decide) t, hon⟩
  rw [← State.division_trees] at hmem
  exact List.mem_map.mp hmem

theorem State.buildPlans_tree_of_mem (hb : b ∈ s.division.builds) : s.buildPlans.tree b.tree = s.treeAfterBuild b := by
  have htree : s.buildPlans.tree b.tree
      = match s.division.builds.find? (fun d => decide (d.tree = b.tree)) with
        | some d => s.treeAfterBuild d
        | none => s.tree b.tree := get_tabulate _ _
  have hnodup : (s.division.builds.map TreeBuild.tree).Nodup := by
    rw [State.division_trees]
    exact (show allTrees.Nodup by decide).filter _
  cases hfind : s.division.builds.find? (fun d => decide (d.tree = b.tree)) with
  | none => exact absurd (decide_eq_true (Eq.refl b.tree)) (List.find?_eq_none.mp hfind b hb)
  | some d =>
    have hsame : d.tree = b.tree :=
      of_decide_eq_true (List.find?_some (p := fun d : TreeBuild => decide (d.tree = b.tree)) hfind)
    have hd : d = b := List.inj_on_of_nodup_map hnodup (List.mem_of_find?_eq_some hfind) hb hsame
    rw [hfind, hd] at htree
    exact htree

theorem State.buildPlans_tree_off {t : TreeId} (hoff : s.enabled t = false) : s.buildPlans.tree t = s.tree t := by
  rcases s.buildPlans_tree t with hsame | ⟨b, hb, rfl, -⟩
  · exact hsame
  · rw [State.enabled_of_build hb] at hoff
    cases hoff

theorem exec_planBuild (hup : s.inReset = none) :
    exec .planBuild s = .next (if s.buildDue && s.running then s.buildPlans else s) := by
  rw [show exec .planBuild s = s.whileUp (if s.buildDue && s.running then s.buildPlans else s) from rfl,
    State.whileUp_up hup]

theorem exec_planBuild_due (hup : s.inReset = none) (hdue : s.buildDue = true) (hrunning : s.running = true) :
    exec .planBuild s = .next s.buildPlans := by
  rw [exec_planBuild hup, hdue, hrunning]
  rfl

/-- A build that finds a search step CHOSEN begins its test round. -/
theorem Tree.setTestRound_chosen {a : Tree} {d : Search} (round : Nat) (hlight : a.light = .search d)
    (hphase : d.phase = .chosen) : a.setTestRound round = { a with
      tx := (a.tx.push (.testDark round d.testHalf)).1
      light := .search { d with
        phase := if (a.tx.push (.testDark round d.testHalf)).2 then .void round else .testing round } } := by
  unfold Tree.setTestRound
  rw [hlight]
  dsimp only
  rw [hphase]

theorem Tree.setTestRound_stands {a : Tree} (round : Nat) (hstands : ∀ d, a.light = .search d → d.phase ≠ .chosen) :
    a.setTestRound round = a := by
  unfold Tree.setTestRound
  split
  · next d hlight =>
    split
    · next hphase => exact absurd hphase (hstands d hlight)
    · rfl
    · rfl
  all_goals rfl

/-- The test round that a build may begin leaves the tree as it is but for its light state and its words. -/
theorem Tree.setTestRound_frame (a : Tree) (round : Nat) :
    a.setTestRound round = { a with tx := (a.setTestRound round).tx, light := (a.setTestRound round).light }
      ∧ (a.setTestRound round).tx.pendingPlans = a.tx.pendingPlans := by
  by_cases hstands : ∀ d, a.light = .search d → d.phase ≠ .chosen
  · rw [Tree.setTestRound_stands round hstands]
    exact ⟨rfl, rfl⟩
  · obtain ⟨d, hlight, hphase⟩ : ∃ d, a.light = .search d ∧ d.phase = .chosen := by simpa using hstands
    rw [Tree.setTestRound_chosen round hlight hphase]
    refine ⟨rfl, ?_⟩
    dsimp only
    rw [Transmitter.push_eq]

theorem State.lastPlan_buildPlans (hb : b ∈ s.division.builds) : s.buildPlans.lastPlan b.tree = s.planOf b := by
  have hpending : (s.buildPlans.tree b.tree).tx.pendingPlans
      = ((s.tree b.tree).tx.pendingPlans ++ [s.planOf b]).drop ((s.tree b.tree).tx.pendingPlans.length - 1) := by
    rw [State.buildPlans_tree_of_mem hb, State.treeAfterBuild_eq, (Tree.setTestRound_frame _ _).2]
    exact keepYoungest_two _ _
  rw [State.lastPlan, hpending, List.drop_append_of_le_length (Nat.sub_le _ _), List.getLastD_concat]

end plan

end Sys2Proof.Machine
end

section
/-! SUPPORT. The plan build (chapter 5): its plans keep to demand, room and share, stand end to end, carry what the
divisions make of the demands, and serve each enabled tree. -/

namespace Sys2Proof.Machine

/-! ### Payloads and placement -/

section payloads
variable {s u : State}

theorem built_of_exec (hup : s.inReset = none) (hdue : s.buildDue = true) (hrunning : s.running = true)
    (hexec : exec .planBuild s = .next u) : s.buildPlans = u := by
  rw [exec_planBuild_due hup hdue hrunning] at hexec
  cases hexec
  rfl

theorem State.rates_ordered (hrange : settingsInRange s.cfg) (tier : Fin 8) :
    (s.rates tier).cr ≤ (s.rates tier).pr := by
  obtain ⟨-, -, htiers, -⟩ := hrange
  exact (htiers tier).2.1

/-- The payloads of all enabled trees together keep to the share. -/
theorem State.sum_payloads_le (s : State) : (s.enabledTrees.map (fun t => (s.buildPlans.lastPlan t).payload)).sum
    ≤ s.share.share := by
  have hplans : s.enabledTrees.map (fun t => (s.buildPlans.lastPlan t).payload)
      = s.division.builds.map (fun b => (b.asks.map (s.payloadOf b)).sum) := by
    rw [← State.division_trees, List.map_map]
    refine List.map_congr_left fun b hb => ?_
    rw [Function.comp_apply, State.lastPlan_buildPlans hb, Plan.payload, State.planOf_payloads]
  have hparts : (s.division.builds.map (fun b => (b.asks.map (s.payloadOf b)).sum)).sum
      ≤ (s.division.builds.map (fun b => committedTotal b.asks + s.allotmentOf b)).sum :=
    List.sum_le_sum fun b hb => State.sum_payloadOf_le hb
  have hsum : (s.division.builds.map (fun b => committedTotal b.asks + s.allotmentOf b)).sum
      = chipTotal s.division.builds + (s.division.builds.map s.allotmentOf).sum := List.sum_map_add
  have hpool := s.pool_le
  have hallotted := s.sum_allotmentOf
  rw [hplans]
  omega

end payloads

/-- Settles O35: a payload is at most the whole demand, the payloads of a tree are its committed demand with its
allotment, and the allotments together are within the pool. -/
theorem payloadsKeepToDemandRoomAndShare : Obligations.PayloadsKeepToDemandRoomAndShare := by
  intro s u hup hdue hrunning hrange hexec
  obtain rfl := built_of_exec hup hdue hrunning hexec
  refine ⟨fun t hon => ?_, s.sum_payloads_le⟩
  obtain ⟨b, hb, rfl⟩ := State.build_of_enabled hon
  rw [State.lastPlan_buildPlans hb]
  refine ⟨fun g hg tier htier => ?_, State.planOf_fits hb⟩
  obtain ⟨a, ha, hhome, hpayload, -⟩ := State.mem_planOf hg
  rw [hhome] at htier ⊢
  have hrates : s.ratesOf (s.record b.tree a.home) = s.rates tier := by
    rw [State.ratesOf, htier]
    rfl
  have hordered := State.rates_ordered hrange tier
  have hwhole := State.payloadOf_le hb ha (by rw [hrates]; exact hordered)
  rw [← hpayload, State.wholeOf, wholeDemand, hrates] at hwhole
  have hbacklog := hwhole.trans (Nat.min_le_left _ _)
  have hpeak := hwhole.trans (Nat.min_le_right _ _)
  refine ⟨hbacklog, hpeak.trans ?_, fun hthrottled => ?_⟩
  · unfold peakOf
    split
    · exact hordered
    · exact Nat.le_refl _
  · rwa [hthrottled] at hpeak

theorem sum_two_add (l : List Grant) : (l.map (fun k => 2 + k.payload)).sum
    = 2 * l.length + (l.map Grant.payload).sum := by
  rw [List.sum_map_add, List.map_const', List.sum_replicate, smul_eq_mul, Nat.mul_comm]

/-- Settles O36: the bursts are placed one behind the other, and all of them fit before the window or the tail. -/
theorem burstsStandEndToEnd : Obligations.BurstsStandEndToEnd := by
  intro s u t hup hdue hon hexec before after g hsplit
  have hrunning : s.running = true := (Bool.and_eq_true_iff.mp hon).1
  obtain rfl := built_of_exec hup hdue hrunning hexec
  obtain ⟨b, hb, rfl⟩ := State.build_of_enabled hon
  rw [State.lastPlan_buildPlans hb] at hsplit ⊢
  obtain ⟨hstart, hafter⟩ := place_starts hsplit
  have hsorted := State.planOf_homes_sorted hb
  have hfits := State.planOf_fits hb
  rw [hsplit] at hsorted
  rw [Plan.payload, hsplit] at hfits
  rw [Nat.zero_add] at hstart
  refine ⟨hstart, fun k hk => ⟨?_, hafter k hk⟩, ?_⟩
  · exact List.rel_of_pairwise_cons (List.pairwise_append.mp hsorted).2.1 hk
  · rw [sum_two_add] at hstart
    simp only [List.map_append, List.map_cons, List.sum_append, List.sum_cons, List.length_append,
      List.length_cons] at hfits
    by_cases hcall : (s.planOf b).call = true
    · rw [if_pos hcall] at hfits ⊢
      omega
    · rw [if_neg hcall] at hfits ⊢
      omega

/-! ### What the divisions make of a build -/

section divided
variable {s : State}

theorem getD_eq_true (o : Option Bool) : o.getD false = true ↔ o = some true := by
  cases o <;> simp

/-- The whole demand of a record (R93). -/
theorem State.wholeOf_eq (s : State) (r : HomeRecord) : s.wholeOf r = min (r.backlog.getD 0)
    (if r.throttled = some true then (s.ratesOf r).cr else (s.ratesOf r).pr) := by
  have hpeak : peakOf (s.ratesOf r) (r.throttled.getD false)
      = if r.throttled = some true then (s.ratesOf r).cr else (s.ratesOf r).pr :=
    if_congr (getD_eq_true _) rfl rfl
  rw [State.wholeOf, wholeDemand, hpeak]
  rfl

theorem pointerAfter_lt {modulus pointer : Nat} (hpointer : pointer < modulus) (pool : Nat) (l : List Want) :
    pointerAfter modulus pointer pool l < modulus := by
  unfold pointerAfter
  split
  · exact hpointer
  · split
    · exact Nat.mod_lt _ ((Nat.zero_le _).trans_lt hpointer)
    · exact hpointer

theorem State.buildPlans_treePointer (s : State) : s.buildPlans.treePointer.val
    = pointerAfter 4 s.treePointer.val s.division.pool (treeWants s.division.builds) :=
  Nat.mod_eq_of_lt (pointerAfter_lt s.treePointer.isLt _ _)

theorem State.buildPlans_homePointer {b : TreeBuild} (hb : b ∈ s.division.builds) :
    (s.buildPlans.tree b.tree).homePointer.val
      = pointerAfter 128 (s.tree b.tree).homePointer.val (s.allotmentOf b) (homeWants b.asks) := by
  rw [State.buildPlans_tree_of_mem hb, State.treeAfterBuild_eq, (Tree.setTestRound_frame _ _).1]
  exact Nat.mod_eq_of_lt (pointerAfter_lt (s.tree b.tree).homePointer.isLt _ _)

theorem State.planOf_grants (s : State) (b : TreeBuild) : (s.planOf b).grants.map (fun g => (g.home, g.payload))
    = b.asks.map (fun a => (a.home, s.payloadOf b a)) := by
  have hpairs : ∀ l : List Grant, l.map (fun g => (g.home, g.payload))
      = (l.map Grant.home).zip (l.map Grant.payload) := fun l => List.zip_map' .. |>.symm
  rw [hpairs, State.planOf_homes, State.planOf_payloads]
  exact List.zip_map' ..

end divided

/-- Settles O37: the figures are scaled and rounded down, a pool is spent whole with the remainder in the order of
the visit, and a build's payloads and pointers are those of its divisions. -/
theorem committedAndExcessAreDivided : Obligations.CommittedAndExcessAreDivided := by
  refine ⟨⟨fun b => ⟨TreeBuild.fit_within, fun hover => ⟨TreeBuild.fit_over hover, TreeBuild.fit_over_total hover⟩⟩,
    fun share bs => ⟨fitShare_within, fun hover => ⟨fitShare_over hover, chipTotal_over hover⟩⟩⟩,
    fun modulus pointer pool l hl => ⟨fun henough => ⟨fun w _ => allot_enough henough w,
      pointerAfter_enough modulus henough⟩, fun hpool => ⟨sum_allot_short hl hpool,
      fun w hw => allot_bounds hl hpool hw, fun w hw v hv hshort hnot hgains => ?_, fun v hv hgains hlast => ?_,
      fun hnone => ?_⟩⟩, ?_⟩
  · refine favoured_first hl ((favoured_iff hl hpool hv).mpr hgains) hw hshort fun hw' => ?_
    have hone := allot_of_favoured hl hpool hw'
    exact Nat.succ_ne_self _ (hone.symm.trans hnot)
  · refine pointerAfter_last modulus hl hpool ((favoured_iff hl hpool hv).mpr hgains) fun w hw hne => ?_
    exact hlast w (mem_of_mem_favoured hw) (allot_of_favoured hl hpool hw) hne
  · refine pointerAfter_none modulus (List.eq_nil_iff_forall_not_mem.mpr fun w hw => ?_)
    exact Nat.succ_ne_self _ ((allot_of_favoured hl hpool hw).symm.trans (hnone w (mem_of_mem_favoured hw)))
  · intro s u hup hdue hrunning hexec committedOf wholeOf served fitted chip committed spare pool want
    obtain rfl := built_of_exec hup hdue hrunning hexec
    have hwhole : wholeOf = s.wholeOf := funext fun r => (s.wholeOf_eq r).symm
    have hasks : ∀ t, (allHomes.filter (served t)).map (fun h =>
        { home := h, generation := (s.record t h).generation, committed := committedOf (s.record t h),
          excess := wholeOf (s.record t h) - committedOf (s.record t h) }) = s.asks t := fun t => by
      have hserved : served t = fun h => s.serves (s.record t h) := by
        funext h
        simp only [served, hwhole, State.serves, ne_eq, decide_not]
      rw [hserved, hwhole]
      rfl
    have hfitted : fitted = s.enabledTrees.map (fun t => (s.askedOf t).fit) := by
      refine List.map_congr_left fun t ht => congrArg TreeBuild.fit ?_
      obtain ⟨b, hb, rfl⟩ := State.build_of_enabled (List.mem_filter.mp ht).2
      rw [hasks, State.lastPlan_buildPlans hb]
      rw [show (s.planOf b).call = b.call from rfl, State.build_call hb]
      rfl
    have hchip : chip = fitShare s.share.share (s.enabledTrees.map fun t => (s.askedOf t).fit) :=
      congrArg (fitShare s.share.share) hfitted
    have hbuilds : chip.1 = s.division.builds := congrArg Prod.fst hchip
    have hpool : pool = s.division.pool := by
      change poolOf s.share.share chip.1 chip.2 = _
      rw [hchip]
      rfl
    rw [hpool, hbuilds]
    refine ⟨s.buildPlans_treePointer, fun b hb => ⟨State.buildPlans_homePointer hb, ?_⟩⟩
    rw [State.lastPlan_buildPlans hb]
    exact s.planOf_grants b

/-! ### What a plan build serves -/

section served
variable {s : State} {b : TreeBuild}

theorem State.serves_iff {t : TreeId} {h : HomeIdx} : s.serves (s.record t h) = true ↔ s.toServe t h := by
  simp [State.serves, State.toServe, and_assoc]

theorem State.granted_iff (hb : b ∈ s.division.builds) (h : HomeIdx) :
    (∃ g ∈ (s.planOf b).grants, g.home = h) ↔ s.toServe b.tree h := by
  rw [← List.mem_map, State.planOf_homes, State.build_homes hb, List.mem_filter, State.serves_iff]
  exact and_iff_right (mem_allHomes h)

theorem State.grantTo_of_mem (hb : b ∈ s.division.builds) {g : Grant} (hg : g ∈ (s.planOf b).grants) :
    (s.planOf b).grantTo g.home = some g.payload := by
  have hnodup : ((s.planOf b).grants.map Grant.home).Nodup :=
    (List.pairwise_map.mpr (State.planOf_homes_sorted hb)).imp ne_of_lt
  rw [Plan.grantTo]
  cases hfind : (s.planOf b).grants.find? (fun k => decide (k.home = g.home)) with
  | none => exact absurd (decide_eq_true (Eq.refl g.home)) (List.find?_eq_none.mp hfind g hg)
  | some k =>
    have hsame : k.home = g.home :=
      of_decide_eq_true (List.find?_some (p := fun k : Grant => decide (k.home = g.home)) hfind)
    rw [List.inj_on_of_nodup_map hnodup (List.mem_of_find?_eq_some hfind) hg hsame]
    rfl

theorem State.grantTo_none (hb : b ∈ s.division.builds) {h : HomeIdx} (hout : ¬ s.toServe b.tree h) :
    (s.planOf b).grantTo h = none := by
  rw [Plan.grantTo, List.find?_eq_none.mpr fun g hg => ?_]
  · rfl
  · exact fun hhome => hout ((State.granted_iff hb h).mp ⟨g, hg, of_decide_eq_true hhome⟩)

theorem State.treeAfterBuild_home (s : State) (b : TreeBuild) (h : HomeIdx) : (s.treeAfterBuild b).home h
    = (s.home b.tree h).afterBuild s.cfg.pollEvery ((s.planOf b).grantTo h) := by
  rw [State.treeAfterBuild_eq, Tree.home, Tree.setTestRound_homes]
  exact s.builtTree_home b h

theorem Light.isClear_iff (l : Light) : l.isClear = true ↔ ∃ n, l = .clear n := by
  cases l <;> simp [Light.isClear]

theorem State.discovers_iff {t : TreeId} (hon : s.enabled t = true) : s.discovers t = true ↔
    (s.tree t).enrol.countdown - 1 = 0 ∧ (∃ n, (s.tree t).light = .clear n)
      ∧ ∃ h, (s.record t h).state = .free := by
  have hfree : (s.lowestFree t).isSome = true ↔ ∃ h, (s.record t h).state = .free := by
    rw [State.lowestFree, List.find?_isSome]
    exact ⟨fun ⟨h, _, hh⟩ => ⟨h, of_decide_eq_true hh⟩, fun ⟨h, hh⟩ => ⟨h, mem_allHomes h, decide_eq_true hh⟩⟩
  rw [State.discovers, hon, Bool.true_and, Bool.and_eq_true, Bool.and_eq_true, decide_eq_true_iff,
    Light.isClear_iff, hfree, and_assoc]
  rfl

end served

/-- Settles O34: a build hands each enabled tree the plan of its build, which serves just the homes that R94 names,
and begins the test round where a search step is CHOSEN. -/
theorem planBuildServesEachEnabledTree : Obligations.PlanBuildServesEachEnabledTree := by
  refine fun s hup => ⟨fun hnot => ?_, fun hdue hrunning => ⟨s.buildPlans, exec_planBuild_due hup hdue hrunning,
    rfl, fun t hoff => State.buildPlans_tree_off hoff, fun t hon => ?_⟩⟩
  · rw [exec_planBuild hup, if_neg fun hboth => ?_]
    obtain ⟨hdue, hrunning⟩ := Bool.and_eq_true_iff.mp hboth
    rcases hnot with hnot | hnot
    · rw [hdue] at hnot; cases hnot
    · rw [hrunning] at hnot; cases hnot
  obtain ⟨b, hb, rfl⟩ := State.build_of_enabled hon
  rw [State.buildPlans_tree_of_mem hb]
  obtain ⟨hframe, -⟩ := Tree.setTestRound_frame (s.builtTree b) (s.planOf b).round
  rw [← State.treeAfterBuild_eq] at hframe
  refine ⟨s.planOf b, rfl, State.granted_iff hb, State.planOf_homes_sorted hb, fun g hg => ?_, ?_, ?_,
    fun h hstate => ?_, fun h hstate => ⟨fun g hg hhome => ?_, fun hout => ?_⟩, ?_, ?_, ?_, ?_, ?_, ?_,
    fun d hlight hphase => ?_, fun hstands => ?_⟩
  · obtain ⟨a, ha, hhome, -, hgen⟩ := State.mem_planOf hg
    rw [hgen, hhome]
    exact (State.ask_of_build hb ha).1
  · rw [show (s.planOf b).call = b.call from rfl, State.build_call hb]
    exact State.discovers_iff hon
  · rw [hframe]; rfl
  · rw [State.treeAfterBuild_home]
    exact if_neg hstate
  · rw [State.treeAfterBuild_home, ← hhome, State.grantTo_of_mem hb hg, hhome]
    exact if_pos hstate
  · rw [State.treeAfterBuild_home, State.grantTo_none hb hout]
    exact if_pos hstate
  · refine ⟨_, congrArg Tree.marks hframe, rfl, ?_, fun h => ?_⟩
    · rw [← Light.isClear_iff]
      simp
    · simp [State.leftDark, mem_allHomes]
  · rw [hframe]; rfl
  · rw [hframe]; rfl
  · rw [hframe]; rfl
  · rw [hframe]; rfl
  · rw [hframe]; rfl
  · rw [State.treeAfterBuild_eq, Tree.setTestRound_chosen (a := s.builtTree b) _ hlight hphase, ← keepYoungest_two]
    exact ⟨rfl, rfl⟩
  · rw [State.treeAfterBuild_eq, Tree.setTestRound_stands (a := s.builtTree b) _ hstands, ← keepYoungest_two]
    exact ⟨rfl, rfl⟩

end Sys2Proof.Machine
end
